-- ==== Sys2Proof/Word.lean ====
section
/-! DEFINITION. The word of the ring and of the exchange tables (32 bits) and the channel number. -/

namespace Sys2Proof

/-- A 32-bit word of a frame or of an exchange table (06, 6.4). -/
abbrev Word := BitVec 32

/-- A channel number, 0 to 7 (01). -/
abbrev Chan := Fin 8

/-- The eight channels in increasing order. -/
def chans : List Chan := [0, 1, 2, 3, 4, 5, 6, 7]

end Sys2Proof
end

