-- ==== Sys2Proof/Syntax.lean ====
section
/-! DEFINITION. The commands of the block, one constructor per row of spec/opcode_table.json, and the data they carry.
The table gives the rows no operands; the operands here are what the happening of each row brings with it. `t` is the local
tick count at which the happening reaches the part (log 2). -/

namespace Sys2Proof

/-- The two ring ports (06): Port U faces the ring master, Port D faces away from it. -/
inductive Port where
  | u
  | d
  deriving DecidableEq, Repr

/-- What a ring port's receiver sees (06, 6.1): an idle symbol, a symbol it cannot decode, or a symbol of a frame. -/
inductive LineSymbol where
  | idle
  | bad
  | frameStart
  | frameWord (w : Word)
  | frameEnd
  deriving DecidableEq, Repr

/-- A pass-through reply carried by a stage report (04, 4.3). -/
structure PassReply where
  reg : BitVec 8
  accepted : Bool
  data : BitVec 16
  deriving DecidableEq, Repr

/-- A stage report (04, 4.3). The currents and the temperature are two's complement. -/
structure StageReport where
  echo : BitVec 8
  ia : BitVec 16
  ib : BitVec 16
  ic : BitVec 16
  u : BitVec 15
  theta : BitVec 16
  angleValid : Bool
  temp : BitVec 10
  desat : Bool
  wasReset : Bool
  reply : Option PassReply
  deriving DecidableEq, Repr

/-- The request area H2 to H11 of a frame header (06, 6.4; 08). -/
structure ReqArea where
  target : BitVec 6
  tag : BitVec 8
  kind : BitVec 3
  table : BitVec 4
  count : BitVec 4
  index : BitVec 8
  word : BitVec 8
  data : Vector Word 8
  deriving DecidableEq, Repr

/-- The commands. The exchange rows carry the whole request area; `WellFormed` says which areas are the row's own. -/
inductive Instr where
  /-- POWER_ON, R3. -/
  | powerOn
  /-- PORT_SYMBOL, R111: one symbol at a port; a start, word or end symbol of a frame acts as such (R112 to R122). -/
  | portSymbol (t : Nat) (p : Port) (sym : LineSymbol)
  /-- PORT_SILENCE, R111. -/
  | portSilence (p : Port)
  /-- FRAME_START, R113: a start symbol arrives at Port U. -/
  | frameStart (t : Nat)
  /-- RETURN_FRAME, R114: a start symbol arrives at Port D; `words` are the first words after it, and the others and the end symbol
  follow one by one (log 24). -/
  | returnFrame (t : Nat) (words : List Word)
  /-- PORT_U_WAIT_END, R114. -/
  | portUWaitEnd
  /-- HEADER_CHECK, R118: word H12 has arrived; `header` is H0 to H12. -/
  | headerCheck (t : Nat) (header : Vector Word 13)
  /-- WALK_ENTRY, R130: payload words arrive in order. -/
  | walkEntry (t : Nat) (words : List Word)
  /-- REPLY_AREA, R149: the reply area Q0 to Q8 passes. -/
  | replyArea (t : Nat) (area : Vector Word 9)
  /-- FRAME_CHECK, R121: word F arrives; `closed` says that the end symbol follows it directly (log 6). -/
  | frameCheck (t : Nat) (f : Word) (closed : Bool) (order : List Chan)
  /-- CYCLE_BOUNDARY, R68; `order` says which channels come first where several act at once (log 7). -/
  | cycleBoundary (order : List Chan)
  /-- HOLDOVER_TIMEOUT, R65. -/
  | holdoverTimeout (order : List Chan)
  /-- PERIOD_EVENT, R69. -/
  | periodEvent (c : Chan)
  /-- CALIBRATION_TIMEOUT, R12. -/
  | calibrationTimeout (c : Chan)
  /-- STOP_TIME_LIMIT, R22. -/
  | stopTimeLimit (c : Chan)
  /-- REPORT_WINDOW_EXPIRY, R70. -/
  | reportWindowExpiry (c : Chan)
  /-- STAGE_REPORT, R81; `lineGood`: the line check is good; `pathGood`: no error of the path itself spoiled the parity. -/
  | stageReport (t : Nat) (c : Chan) (lineGood pathGood : Bool) (r : StageReport)
  /-- JOB_COMPLETE, R73. -/
  | jobComplete
  /-- STAGE_SYMBOL, R77. -/
  | stageSymbol (t : Nat) (c : Chan)
  /-- STAGE_SILENCE, R77. -/
  | stageSilence (c : Chan)
  /-- STAGE_RECORD_SENT, R78. -/
  | stageRecordSent (c : Chan)
  /-- PASS_THROUGH_TIMEOUT, R92. -/
  | passThroughTimeout (c : Chan)
  /-- SETTLING_END, R86. -/
  | settlingEnd (c : Chan)
  /-- WRITE, R148: a WRITE to a table with no write rule of its own. -/
  | write (t : Nat) (r : ReqArea)
  /-- CHANNEL_WRITE, R1. -/
  | channelWrite (t : Nat) (r : ReqArea)
  /-- TIMEBASE_WRITE, R59. -/
  | timebaseWrite (t : Nat) (r : ReqArea)
  /-- SHARE_WRITE, R96. -/
  | shareWrite (t : Nat) (r : ReqArea)
  /-- NODE_WRITE, R116. -/
  | nodeWrite (t : Nat) (r : ReqArea)
  /-- MAP_WRITE, R126. -/
  | mapWrite (t : Nat) (r : ReqArea)
  /-- MAP_CONTROL_WRITE, R127. -/
  | mapControlWrite (t : Nat) (r : ReqArea)
  /-- ALERT_WRITE, R158. -/
  | alertWrite (t : Nat) (r : ReqArea)
  /-- INTEGRITY_WRITE, R167. -/
  | integrityWrite (t : Nat) (r : ReqArea)
  /-- TRACE_WRITE, R172. -/
  | traceWrite (t : Nat) (r : ReqArea)
  /-- STAGE_READ, R89. -/
  | stageRead (t : Nat) (r : ReqArea)
  /-- STAGE_WRITE, R89. -/
  | stageWrite (t : Nat) (r : ReqArea)
  /-- CLEAR_EVENTS, R162. -/
  | clearEvents (t : Nat) (r : ReqArea)
  /-- CLEAR_COUNTERS, R76. -/
  | clearCounters (t : Nat) (r : ReqArea)
  /-- NODE_RESET, R153. -/
  | nodeReset (t : Nat) (r : ReqArea)
  /-- MAP_ENABLE, R128. -/
  | mapEnable (t : Nat) (r : ReqArea)
  /-- MAP_DISABLE, R128. -/
  | mapDisable (t : Nat) (r : ReqArea)
  /-- SYNC_CLEAR, R66. -/
  | syncClear (t : Nat) (r : ReqArea)
  /-- STAGE_RESET, R85. -/
  | stageReset (t : Nat) (r : ReqArea)
  /-- ARM, R9. -/
  | arm (t : Nat) (r : ReqArea)
  /-- RUN, R13. -/
  | run (t : Nat) (r : ReqArea)
  /-- HALT, R15. -/
  | halt (t : Nat) (r : ReqArea)
  /-- OFF, R16. -/
  | off (t : Nat) (r : ReqArea)
  /-- CLEAR, R17. -/
  | clear (t : Nat) (r : ReqArea)
  /-- NONE_REQUEST, R7. -/
  | noneRequest (t : Nat) (r : ReqArea)
  /-- TRACE_ARM, R174. -/
  | traceArm (t : Nat) (r : ReqArea)
  /-- TRACE_TRIGGER, R175. -/
  | traceTrigger (t : Nat) (r : ReqArea)
  /-- TRACE_STOP, R176. -/
  | traceStop (t : Nat) (r : ReqArea)
  /-- INTEGRITY_CLEAR, R168. -/
  | integrityClear (t : Nat) (r : ReqArea)
  /-- VECTOR_EVENT, R161. -/
  | vectorEvent (t : Nat) (r : ReqArea)
  /-- VECTOR_RESET, R163. -/
  | vectorReset (t : Nat) (r : ReqArea)
  /-- FETCH, R177. -/
  | fetch (t : Nat) (r : ReqArea)
  /-- READ, R147: a READ of a node table. -/
  | read (t : Nat) (r : ReqArea)
  /-- END_SYMBOL, R117: the end symbol of a frame arrives at Port U; `words` are the words that came before it since the last
  command. -/
  | endSymbol (t : Nat) (words : List Word) (order : List Chan)
  deriving DecidableEq, Repr

end Sys2Proof
end

