-- ==== Sys2Proof/Config.lean ====
section
/-! DEFINITION. The fixed figures of the part, each with the rule that gives it. Times are in ticks of 10 ns. Last, the free values
the spec leaves open. -/

namespace Sys2Proof.Config

/-- Service time of a job, R73. -/
def jobTicks : Nat := 150

/-- A line is silent after 2 us without a symbol, R77 and R111. -/
def silenceTicks : Nat := 200

/-- Line time of a duty record, R78. -/
def recordTicks : Nat := 96

/-- Line time of a duty record that carries a pass-through request, R78. -/
def recordPassTicks : Nat := 160

/-- Settling after the record with the reset mark was sent: 20 ms, R86. -/
def settlingTicks : Nat := 2000000

/-- Timeout of a pass-through: 2 ms, R92. -/
def passTimeoutTicks : Nat := 200000

/-- Fixed ingress latency taken off a mark's arrival, R60. -/
def ingressTicks : Nat := 31

/-- Delay of a forwarded frame taken at Port U: 600 ns, R113. -/
def forwardTicks : Nat := 60

/-- Delay of a frame forwarded on its return pass: 80 ns, R114. -/
def returnTicks : Nat := 8

/-- Line time of one frame word: 40 ns (06, 6.1). -/
def wordTicks : Nat := 4

/-- Good idles that bring a port UP, R111. -/
def trainIdles : Nat := 64

/-- Bad symbols in a row that put a port back in TRAINING, R111. -/
def badLimit : Nat := 16

/-- In-window marks that lock, R63. -/
def lockRun : Nat := 8

/-- Out-of-window marks that lose lock, R63. -/
def loseRun : Nat := 4

/-- Missed marks in a row that enter HOLDOVER, R64. -/
def missRun : Nat := 2

/-- Valid samples of a calibration, R11, R12. -/
def calSamples : Nat := 64

/-- The period event since ARM at which an unfinished calibration fails, R12. -/
def calLimit : Nat := 257

/-- The largest count of a 32-bit saturating counter (00, Conventions). -/
def counterMax : Nat := 4294967295

/-- The largest integrity count, 10.2. -/
def integMax : Nat := 65535

/-- Where a run count saturates, R20. -/
def runMax : Nat := 255

/-- The factor that stands for 1 (00, Conventions). -/
def factorOne : Nat := 32767

/-- The magnitude to which the PI accumulators are clamped, R47. -/
def accMax : Int := 2147418112

/-- Places of the trace buffer, R173. -/
def tracePlaces : Nat := 1024

/-- Part code, revision and vendor code of the NODE table, 6.3. -/
def partCode : Nat := 0x4B38
def revision : Nat := 0x0001
def vendorCode : Nat := 0x2E61

/-- A free value: what an ARM goes on with for a period setting (word `w` of the record, 0 to 3) whose word is uncorrectable, the `n`-th
time that happens. The spec states no value (R4, R165, R171; log 48). -/
opaque lostSetting (n w : Nat) : Nat

end Sys2Proof.Config
end

