-- ==== Sys2Proof/Machine/Arith.lean ====
section
/-! DEFINITION. The arithmetic the manual's conventions give (00, Conventions): clamping, signed words, saturating counters, the
square root, and the sine and cosine values of R36. Division of integers by a positive number rounds down. -/

namespace Sys2Proof.Machine

open Sys2Proof

/-- Clamping to a range (00, Conventions). -/
def clamp (lo hi v : Int) : Int := if v < lo then lo else if hi < v then hi else v

/-- Clamping to ±x (00, Conventions). -/
def clampSym (x v : Int) : Int := clamp (-x) x v

/-- A counter that saturates (00, Conventions). -/
def bump (n : Nat) : Nat := min (n + 1) Config.counterMax

/-- A run count, saturating at 255 (R20). -/
def bumpRun (n : Nat) : Nat := min (n + 1) Config.runMax

/-- Division by 2^15, rounded to nearest, halves upward (R35, R37, R39). -/
def round15 (v : Int) : Int := (v + 16384) / 32768

/-- A 16-bit angle difference taken into −32 768 to 32 767 (R32). -/
def wrapAngle (d : Int) : Int := if d > 32767 then d - 65536 else if d < -32768 then d + 65536 else d

/-- An angle modulo 65 536 (R33, R34). -/
def angleMod (a : Int) : Nat := (a % 65536).toNat

/-- The 32-bit word of a signed or unsigned value (1.1: right-aligned, sign-extended). -/
def toWord (v : Int) : Word := BitVec.ofInt 32 v

/-- Bits hi to lo of a word as a number. -/
def field (w : Word) (hi lo : Nat) : Nat := (w.toNat / 2 ^ lo) % 2 ^ (hi + 1 - lo)

/-- Bit i of a word from a truth value. -/
def bit (b : Bool) (i : Nat) : Nat := if b then 2 ^ i else 0

/-- One digit of the square root: keep bit `b` if the square still fits. -/
def rootDigit (n : Nat) (r b : Nat) : Nat := if (r + 2 ^ b) * (r + 2 ^ b) ≤ n then r + 2 ^ b else r

/-- The root digits from bit `k - 1` down to bit 0. -/
def rootFrom (n : Nat) : Nat → Nat → Nat
  | 0, r => r
  | k + 1, r => rootFrom n k (rootDigit n r k)

/-- Floor of the exact square root of a number below 2^64 (00, Conventions). -/
def isqrt (n : Nat) : Nat := rootFrom n 32 0

/-- The scale 2^64 of the sine series. -/
def sineScale : Nat := 18446744073709551616

/-- π in that scale, rounded down. -/
def sinePi : Nat := 57952155664616982739

/-- The alternating sine series from term i on; `t` is the term's magnitude and `x2` the squared argument, both scaled. -/
def sineSum : Nat → Nat → Nat → Nat → Int
  | 0, _, _, _ => 0
  | k + 1, i, t, x2 => (t : Int) - sineSum k (i + 1) (t * x2 / sineScale / ((2 * i + 2) * (2 * i + 3))) x2

/-- 32 767 × sin(2πk/65 536), rounded to nearest, for k from 0 to 16 384 (R36; log 20). -/
def sineQuarter (k : Nat) : Int :=
  let x := k * sinePi / 32768
  (sineSum 14 0 x (x * x / sineScale) * 65534 + sineScale) / (2 * sineScale)

/-- The sine value s of an angle (R36). -/
def sine (phi : Nat) : Int :=
  let r := phi % 16384
  match phi / 16384 % 4 with
  | 0 => sineQuarter r
  | 1 => sineQuarter (16384 - r)
  | 2 => -sineQuarter r
  | _ => -sineQuarter (16384 - r)

/-- The cosine value c of an angle (R36). -/
def cosine (phi : Nat) : Int := sine (phi + 16384)

end Sys2Proof.Machine
end

