-- ==== Sys2Proof/Machine/State.lean ====
section
/-! DEFINITION. The state of the block as plain data, block by block, and the state after power-on. Each structure cites the
rules that name its fields; INVENTORY.md lists every field with its reset value. -/

namespace Sys2Proof.Machine

open Sys2Proof

/-- The block never stops: the spec gives no condition in which it does, so this type has no constructor (safe). -/
inductive Fault where
  deriving DecidableEq, Repr

/-- Refusals. -/
inductive Refusal where
  /-- Raised by an arm of `exec` for a command that has no meaning yet; no arm of this model raises it (safe). -/
  | notModelled (mnemonic : String)
  deriving DecidableEq, Repr

/-! ## Channels (01, 02) -/

/-- Pair role, word 4 of the channel record (1.1). -/
inductive Role where
  | none
  | leader
  | follower
  deriving DecidableEq, Repr

/-- Channel state, word 35 (1.2). -/
inductive ChanState where
  | off
  | calibrating
  | ready
  | running
  | stopping
  | faulted
  deriving DecidableEq, Repr

/-- Fault code, word 36 (1.5). -/
inductive FaultCode where
  | none
  | overcurrent
  | gateDesat
  | undervoltage
  | overvoltage
  | periodLoss
  | stageReset
  | integrity
  | angleLost
  | overtemp
  | commLoss
  | partner
  | calibration
  deriving DecidableEq, Repr

/-- Request code, held by the latch, word 37 (R7). -/
inductive RequestCode where
  | none
  | arm
  | run
  | halt
  | off
  | clear
  deriving DecidableEq, Repr

/-- Setup words 0 to 9 of the channel record (1.1). -/
structure Setup where
  periods : Nat := 2
  offset : Nat := 0
  window : Nat := 800
  deadline : Nat := 0
  role : Role := .none
  partner : Chan := 0
  share : Int := 0
  fwOn : Bool := false
  offsetLimit : Nat := 1638
  weight : Nat := 4096
  deriving DecidableEq, Repr

/-- Tuning words 10 to 34 of the channel record (1.1). -/
structure Tuning where
  kpD : Nat := 0
  kiD : Nat := 0
  kpQ : Nat := 0
  kiQ : Nat := 0
  modLimit : Nat := 0
  advance : Nat := 384
  fwThreshold : Nat := 0
  fwStep : Nat := 0
  idFwMin : Int := 0
  iqLim : Nat := 0
  idLim : Nat := 0
  imax : Nat := 0
  iqFloor : Nat := 0
  trip : Nat := 0
  uMin : Nat := 0
  uMax : Nat := 0
  tempLimit : Nat := 0
  rampRate : Nat := 1
  stopLimit : Nat := 1
  zeroThreshold : Nat := 0
  missLimit : Nat := 0
  degradedLimit : Nat := 0
  angleGrace : Nat := 0
  cmin : Nat := 0
  rank : Nat := 3
  deriving DecidableEq, Repr

/-- The limit flags, word 67, from bit 0 upward (1.1). -/
structure LimitFlags where
  qLimit : Bool := false
  circle : Bool := false
  dVolt : Bool := false
  qVolt : Bool := false
  fwFloor : Bool := false
  deriving DecidableEq, Repr

/-- Three compare values in ticks (4.2). -/
structure Compare where
  a : Nat := 0
  b : Nat := 0
  c : Nat := 0
  deriving DecidableEq, Repr

/-- Feedback words 54 to 67 of the channel record (1.1); `idRef` and `iqRef` are id* and iq*, `vd` and `vq` are vd′ and vq′. -/
structure Feedback where
  id : Int := 0
  iq : Int := 0
  idRef : Int := 0
  iqRef : Int := 0
  vd : Int := 0
  vq : Int := 0
  u : Nat := 0
  theta : Nat := 0
  omega : Int := 0
  p : Int := 0
  cmp : Compare := {}
  flags : LimitFlags := {}
  deriving DecidableEq, Repr

/-- Status words 35 to 67 of the channel record (1.1). -/
structure Status where
  state : ChanState := .off
  fault : FaultCode := .none
  latch : RequestCode := .none
  offA : Int := 0
  offB : Int := 0
  offC : Int := 0
  iqPrev : Int := 0
  iqCur : Int := 0
  idPrev : Int := 0
  idCur : Int := 0
  vdFf : Int := 0
  vqFf : Int := 0
  accD : Int := 0
  accQ : Int := 0
  idFw : Int := 0
  grant : Nat := 32767
  missRun : Nat := 0
  degradedRun : Nat := 0
  angleRun : Nat := 0
  fb : Feedback := {}
  deriving DecidableEq, Repr

/-- The channel record (1.1). -/
structure Record where
  setup : Setup := {}
  tuning : Tuning := {}
  status : Status := {}
  deriving DecidableEq, Repr

/-- The kind of a stop (R15, R19). -/
inductive StopKind where
  | none
  | halt
  | fault
  deriving DecidableEq, Repr

/-- A period event that has been generated and has not yet fallen (R69): its number in its cycle, its instant, and the instant
of the boundary that generated it. -/
structure PeriodEvent where
  j : Nat
  time : Nat
  boundary : Nat
  deriving DecidableEq, Repr

/-- The channel state that the record does not show (1.1, 2.2): incoming values (R25), calibration (R11), stop (R15, R21, R22),
effective settings (R4), angle history (R32, R33), period numbering and events to come (R69). -/
structure Hidden where
  iqIn : Int := 0
  idIn : Int := 0
  vdIn : Int := 0
  vqIn : Int := 0
  fresh : Bool := false
  sumA : Int := 0
  sumB : Int := 0
  sumC : Int := 0
  calSamples : Nat := 0
  calPeriods : Nat := 0
  stopKind : StopKind := .none
  rampQ : Int := 0
  rampD : Int := 0
  /-- the ramp values of this stop have been set (R21; log 14) -/
  rampsSet : Bool := false
  stopPeriods : Nat := 0
  effP : Nat := 0
  /-- N, the period offset and the report window as ARM fixed them (R4; log 42) -/
  effN : Nat := 0
  effOffset : Nat := 0
  effWindow : Nat := 0
  effDeadline : Nat := 0
  thetaPrev : Nat := 0
  omega : Int := 0
  /-- period number of the history; -1 stands for none, and for the period before the first (R33) -/
  histPeriod : Int := -1
  /-- no job has completed since ARM (R32) -/
  firstJob : Bool := true
  /-- the id_fw that the latest completed normal job added (R21; log 13) -/
  usedIdFw : Int := 0
  /-- how many period events the channel has had since ARM (R69); before the first ARM and after a reset, which R69 leaves open, 0 is the
  model's (log 26) -/
  periodCount : Nat := 0
  events : List PeriodEvent := []
  deriving DecidableEq, Repr

/-- The counters of the compute unit and of the walker for one channel (R76, R143). -/
structure ChanCounts where
  completed : Nat := 0
  abandoned : Nat := 0
  overrun : Nat := 0
  setpoints : Nat := 0
  deriving DecidableEq, Repr

/-- One channel. `held` are the exchange writes held for the job in service, each the list of the words it stores with their
clamped values (R1). -/
structure Channel where
  record : Record := {}
  hid : Hidden := {}
  held : List (List (Nat × Int)) := []
  counts : ChanCounts := {}
  deriving DecidableEq, Repr

/-! ## Stage links (04) -/

/-- Where a duty record comes from (R79). A job's record brings its own compare values and gates. -/
inductive RecordSource where
  | job (cmp : Compare) (gates : Bool)
  | gateOff
  | keepAlive
  deriving DecidableEq, Repr

/-- The pass-through request a record carries (4.2). -/
structure PassRequest where
  reg : BitVec 8
  write : Bool
  data : BitVec 16
  deriving DecidableEq, Repr

/-- A duty record being sent (R78, R79); `endsAt` is the instant its last symbol goes out. The 16-bit line check of 4.2 is left out: the spec
gives no generator for it (log 21). -/
structure DutyRecord where
  keepAlive : Bool
  seq : BitVec 8
  cmp : Compare
  gates : Bool
  resetMark : Bool
  ack : Bool
  pass : Option PassRequest
  endsAt : Nat
  deriving DecidableEq, Repr

/-- An open report window (R70) with the echo it expects (R82). -/
structure Window where
  period : Nat
  j : Nat
  time : Nat
  deadline : Nat
  expected : BitVec 8
  deriving DecidableEq, Repr

/-- Settling after a stage reset (R86): the record with the reset mark has not been sent, or settling ends at an instant. -/
inductive Settling where
  | none
  | awaiting
  | untilTick (t : Nat)
  deriving DecidableEq, Repr

/-- A pass-through taken by a link (R89 to R92). -/
structure PassThrough where
  req : PassRequest
  started : Bool
  timeout : Nat
  deriving DecidableEq, Repr

/-- What the last sync symbol followed (R81). -/
inductive SyncKind where
  | keepAlive
  | period
  deriving DecidableEq, Repr

/-- The counters of a link (R94). -/
structure LinkCounts where
  damaged : Nat := 0
  parity : Nat := 0
  missWindow : Nat := 0
  missParity : Nat := 0
  missEcho : Nat := 0
  late : Nat := 0
  stray : Nat := 0
  timeouts : Nat := 0
  sent : Nat := 0
  deriving DecidableEq, Repr

/-- One stage link (R95). -/
structure Link where
  present : Bool := false
  lastSymbol : Nat := 0
  seq : BitVec 8 := 0
  cmp : Compare := {}
  gates : Bool := false
  sentSeq : BitVec 8 := 0
  sending : Option DutyRecord := none
  waiting : Option RecordSource := none
  window : Option Window := none
  waiver : Bool := false
  report : Option StageReport := none
  note : Bool := false
  resetWaiting : Bool := false
  settling : Settling := .none
  pass : Option PassThrough := none
  lastSync : SyncKind := .keepAlive
  counts : LinkCounts := {}
  deriving DecidableEq, Repr

/-! ## Compute unit (03) -/

/-- A period job (R70). `report` is the report it carries if that report is valid. -/
structure Job where
  chan : Chan
  period : Nat
  j : Nat
  time : Nat
  deadline : Nat
  report : Option StageReport
  deriving DecidableEq, Repr

/-- The kinds of job (R28). -/
inductive JobKind where
  | normal
  | blind
  | measurement
  deriving DecidableEq, Repr

/-- The job in service with the picture it read (R29). `state0` is the state it runs in, `blocked` says a fault check stopped its
computation (R28), `left` that the channel has left RUNNING and STOPPING, or CALIBRATING, since its start (R6). -/
structure Service where
  job : Job
  kind : JobKind
  state0 : ChanState
  blocked : Bool
  left : Bool
  /-- its channel has been armed since the job began (R10, R33; log 35) -/
  rearmed : Bool
  startedAt : Nat
  record : Record
  hid : Hidden
  leaderIq : Option Int
  deriving DecidableEq, Repr

/-- The compute unit (3.6). -/
structure ComputeUnit where
  queue : List Job := []
  service : Option Service := none
  deriving DecidableEq, Repr

/-! ## Timebase (03) -/

/-- Timebase states (3.3). -/
inductive TbState where
  | free
  | acquire
  | locked
  | holdover
  deriving DecidableEq, Repr

/-- The timebase (3.1, R59 to R67). -/
structure Timebase where
  state : TbState := .free
  cycleLen : Nat := 25000
  offset : Nat := 0
  ringDelay : Nat := 0
  slew : Nat := 4
  lockWindow : Nat := 20
  holdLimit : Nat := 4000
  syncFault : Bool := false
  lastError : Int := 0
  inRun : Nat := 0
  outRun : Nat := 0
  missRun : Nat := 0
  holdCount : Nat := 0
  nextBoundary : Nat := 25000
  lastBoundary : Nat := 0
  lenInUse : Nat := 25000
  /-- a mark has been taken in the cycle (R64; at a ring reset and a node reset, log 49) -/
  markNoted : Bool := false
  marksTaken : Nat := 0
  marksMissed : Nat := 0
  deriving DecidableEq, Repr

/-! ## Power share (05) -/

/-- The power share (5.1, R107). -/
structure Share where
  enable : Bool := false
  supply : Nat := 0
  credit : Bool := true
  restricted : Bool := false
  remaining : Nat := 0
  regen : Nat := 0
  cutRank : Nat := 4
  demands : Vector Nat 4 := Vector.replicate 4 0
  budgets : Nat := 0
  restrictedBudgets : Nat := 0
  deriving DecidableEq, Repr

/-! ## Ring interface (06) -/

/-- Link state of a ring port (R111). -/
inductive PortLink where
  | down
  | training
  | up
  deriving DecidableEq, Repr

/-- A ring port (R111). -/
structure RingPort where
  state : PortLink := .down
  goodRun : Nat := 0
  badRun : Nat := 0
  lastSymbol : Nat := 0
  deriving DecidableEq, Repr

/-- Topology setting (R113). -/
inductive Topology where
  | auto
  | through
  | loop
  deriving DecidableEq, Repr

/-- Participation setting (R115). -/
inductive Participation where
  | active
  | passive
  deriving DecidableEq, Repr

/-- The path of a frame (R113). -/
inductive Path where
  | outD
  | outU
  deriving DecidableEq, Repr

/-- What the header check of a frame has shown (R117, R118). -/
inductive HeaderPhase where
  | awaiting
  | bad
  | cycle
  | reset
  | undefinedKind
  deriving DecidableEq, Repr

/-- The frame being passed from Port U: its stamp (R60), path (R113), the words received so far, the instant at which each came (R113;
log 24), the words they go out as, and the words of the reply that still go out in its reply area (R149). -/
structure Frame where
  stamp : Nat
  path : Path
  lost : Bool
  phase : HeaderPhase := .awaiting
  active : Bool := false
  rx : List Word := []
  times : List Nat := []
  tx : List Word := []
  area : List Word := []
  deriving DecidableEq, Repr

/-- The returning frame being passed from Port D (R114): its words so far, the instant at which each came, and whether it was dropped at
Port U's transmitter. -/
structure ReturnFrame where
  lost : Bool := false
  words : List Word := []
  times : List Nat := []
  deriving DecidableEq, Repr

/-- A frame for Port U's transmitter (R114): whether it is a returning frame, when its start symbol arrived, when that symbol left,
and when its end symbol arrived. -/
structure TxFrame where
  returning : Bool
  startAt : Nat
  leftAt : Option Nat
  ended : Option Nat
  deriving DecidableEq, Repr

/-- A frame that has ended and is still being sent out of Port D (R113): when its end symbol has gone, the words it goes out as, and the
instant at which each came. -/
structure TailFrame where
  gone : Nat
  words : List Word
  times : List Nat
  deriving DecidableEq, Repr

/-- The frame last forwarded: the port it left by and its words (the model's own observation, log 40). -/
structure Forwarded where
  path : Path
  words : List Word
  deriving DecidableEq, Repr

/-- The counters of the ring interface (R125). -/
structure RingCounts where
  frames : Nat := 0
  headerFail : Nat := 0
  checkFail : Nat := 0
  undefKinds : Nat := 0
  lost : Nat := 0
  discards : Nat := 0
  symErrU : Nat := 0
  symErrD : Nat := 0
  deriving DecidableEq, Repr

/-- The ring interface (06). Port U's transmitter is `uDue`, `uSending` and `uWaiting` (log 24). -/
structure Ring where
  portU : RingPort := {}
  portD : RingPort := {}
  topology : Topology := .auto
  participation : Participation := .active
  address : BitVec 6 := 0
  frame : Option Frame := none
  back : Option ReturnFrame := none
  /-- the frames that will leave Port U and are not yet due, the first due first (R113, R114) -/
  uDue : List TxFrame := []
  uSending : Option TxFrame := none
  uWaiting : Option TxFrame := none
  /-- the ended frames still being sent out of Port D, the first ended first (R113) -/
  dTail : List TailFrame := []
  forwarded : Option Forwarded := none
  counts : RingCounts := {}
  deriving DecidableEq, Repr

/-! ## Slot map walker (07) -/

/-- Entry actions (7.1). -/
inductive Action where
  | endWalk
  | take
  | put
  | takeNode
  | putNode
  | skipUnless
  deriving DecidableEq, Repr

/-- A slot map entry as stored (7.1, 7.8). The offset 1 023 is CYCLE_NUMBER. -/
structure MapEntry where
  action : Action := .endWalk
  offset : Nat := 0
  chan : Chan := 0
  item : Nat := 0
  skip : Nat := 1
  mask : BitVec 16 := 0
  value : BitVec 16 := 0
  deriving DecidableEq, Repr

/-- Walker states (7.2). -/
inductive WalkState where
  | disabled
  | ready
  | walking
  | halted
  deriving DecidableEq, Repr

/-- How the latest walk ended (7.2). -/
inductive LastEnd where
  | none
  | endEntry
  | length
  | walkLimit
  | overrun
  | halt
  | cut
  deriving DecidableEq, Repr

/-- The take buffer slots of one channel (R132). -/
structure ChanTakes where
  iq : Option Int := none
  id : Option Int := none
  vd : Option Int := none
  vq : Option Int := none
  request : Option (BitVec 4) := none
  deriving DecidableEq, Repr

/-- The take buffer (R132). -/
structure TakeBuffer where
  chan : Vector ChanTakes 8 := Vector.replicate 8 {}
  supply : Option Nat := none
  deriving DecidableEq, Repr

/-- The counters of the walker (R143). -/
structure WalkCounts where
  begun : Nat := 0
  late : Nat := 0
  short : Nat := 0
  limited : Nat := 0
  commits : Nat := 0
  discards : Nat := 0
  halts : Nat := 0
  deriving DecidableEq, Repr

/-- The slot map and its walker (07). During a walk `cur` is the entry the walker waits for the word of. -/
structure Walker where
  map : Vector MapEntry 128 := Vector.replicate 128 {}
  len : Nat := 0
  limit : Nat := 128
  state : WalkState := .disabled
  lastEnd : LastEnd := .none
  lastCount : Nat := 0
  pos : Option Nat := none
  executed : Nat := 0
  cur : Nat := 0
  takes : TakeBuffer := {}
  counts : WalkCounts := {}
  deriving DecidableEq, Repr

/-! ## Exchange responder (08) -/

/-- Responder states (8.4). -/
inductive RespState where
  | idle
  | waiting
  | holding
  deriving DecidableEq, Repr

/-- Reply status codes (8.1). -/
inductive ReplyStatus where
  | ok
  | pending
  | busy
  | badRequest
  | denied
  | integrity
  | timeout
  | stageAbsent
  deriving DecidableEq, Repr

/-- A reply (R149); unused data words are 0. -/
structure Reply where
  addr : BitVec 6
  tag : BitVec 8
  status : ReplyStatus
  count : Nat
  data : List Word
  deriving DecidableEq, Repr

/-- The counters of the responder (R154). -/
structure RespCounts where
  taken : Nat := 0
  busy : Nat := 0
  repeats : Nat := 0
  deferred : Nat := 0
  dropped : Nat := 0
  deriving DecidableEq, Repr

/-- The exchange responder (08). `formed` is the reply formed for the frame that is passing (R149), `flight` the request whose
pass-through is in flight, `memory` the repeat memory (R152). -/
structure Responder where
  state : RespState := .idle
  flight : Option ReqArea := none
  formed : Option Reply := none
  ready : Option Reply := none
  memory : Option (ReqArea × Reply) := none
  resetOrdered : Bool := false
  counts : RespCounts := {}
  deriving DecidableEq, Repr

/-! ## Services: event unit (09), integrity unit (10), trace recorder (11) -/

/-- The event classes (9.1). -/
inductive EventClass where
  | integrityFatal
  | channelFault
  | syncHoldover
  | syncLost
  | mapHalt
  | mapLimit
  | budgetLimit
  | setpointMiss
  | jobLate
  | sampleMiss
  | frameDamaged
  | shortFrame
  | configReject
  | integrityCorrected
  | traceDone
  | linkChange
  deriving DecidableEq, Repr

/-- The two detail words of a raise (9.1). -/
structure Detail where
  w0 : Word
  w1 : Word
  deriving DecidableEq, Repr

/-- A pending class (9.2). -/
structure Pending where
  detail : Detail
  count : Nat
  deriving DecidableEq, Repr

/-- An alert map entry (9.3). -/
structure AlertEntry where
  enable : Bool := true
  line : Nat := 0
  deriving DecidableEq, Repr

/-- The event unit (09). Place i of the pending set and of the alert map is class i + 1. -/
structure Events where
  pending : Vector (Option Pending) 16 := Vector.replicate 16 none
  alert : Vector AlertEntry 16 := Vector.replicate 16 {}
  causePowerOn : Bool := true
  causeRing : Bool := false
  causeNode : Bool := false
  deriving DecidableEq, Repr

/-- The protected memories (10.1). -/
inductive MemId where
  | channel
  | map
  | alert
  | trace
  deriving DecidableEq, Repr

/-- A word of a protected memory (10.1). -/
structure Loc where
  mem : MemId
  index : Nat
  word : Nat
  deriving DecidableEq, Repr

/-- What the check bits of a bad word show (R165). -/
inductive Flaw where
  | single
  | double
  deriving DecidableEq, Repr

/-- The integrity unit (10.2), and the flaws of the protected words: a list from the key of a location to its flaw, keys strictly
rising, good words unlisted. -/
structure Integrity where
  corrected : Nat := 0
  uncorrectable : Nat := 0
  corrCapture : Option Loc := none
  uncCapture : Option Loc := none
  target : MemId := .channel
  kind : Option Flaw := none
  parity : Vector Bool 8 := Vector.replicate 8 false
  flaws : List (Nat × Flaw) := []
  deriving DecidableEq, Repr

/-- Recorder states (11.3). -/
inductive TraceState where
  | idle
  | filling
  | armed
  | post
  | done
  deriving DecidableEq, Repr

/-- Trigger sources (11.1). -/
inductive TraceSource where
  | command
  | event
  | rising
  | falling
  deriving DecidableEq, Repr

/-- A trace entry: the three words of a place (11.2). -/
structure TraceEntry where
  w0 : Word
  w1 : Word
  w2 : Word
  deriving DecidableEq, Repr

/-- The trace recorder (11). `entries` are the entries held, oldest first; the newest stands in the place before `next`. The spec gives no
reset value for `prevLane`, the lane 0 value of the capture before, and `postDone`, the post-trigger entries counted: none and 0 are the
model's (log 26). -/
structure Trace where
  state : TraceState := .idle
  laneChan : Vector Chan 4 := Vector.replicate 4 0
  laneQty : Vector (Fin 16) 4 := Vector.replicate 4 0
  refChan : Chan := 0
  pre : Nat := 0
  post : Nat := 1
  source : TraceSource := .command
  trigClass : Nat := 1
  level : Int := 0
  entries : List TraceEntry := []
  next : Nat := 0
  sample : Nat := 0
  trigSample : Nat := 0
  prevLane : Option Int := none
  postDone : Nat := 0
  deriving DecidableEq, Repr

/-- The services shared by all blocks. -/
structure Services where
  events : Events := {}
  integ : Integrity := {}
  trace : Trace := {}
  deriving DecidableEq, Repr

/-! ## The whole -/

/-- The state of the block. `now` is the local tick count (3.1) and `pending` the queue of commands waiting, first in, first
out. -/
structure State where
  now : Nat := 0
  /-- how many ARMs have met a setting they could not read: the model's own count, which picks the free values they go on with (log 48) -/
  lostArms : Nat := 0
  pending : List Instr := []
  ring : Ring := {}
  tb : Timebase := {}
  channels : Vector Channel 8 := Vector.replicate 8 {}
  links : Vector Link 8 := Vector.replicate 8 {}
  cu : ComputeUnit := {}
  share : Share := {}
  walker : Walker := {}
  resp : Responder := {}
  svc : Services := {}
  deriving DecidableEq, Repr

/-- The block right after power-on: every field at the value the spec gives (R3, R67, R95, R109, R124, R144, R155, R164, R171,
R178), the queue empty. The fields the spec gives no value for are named in log 13, 14, 22, 25, 26, 40 and 48. -/
def State.reset : State := {}

end Sys2Proof.Machine
end

