-- ==== Sys2Proof/Machine/Control.lean ====
section
/-! DEFINITION. The period computation (02): the arithmetic of a job, stage by stage. -/

namespace Sys2Proof.Machine

open Sys2Proof

/-! ## Samples and angle (2.3) -/

/-- A raw current corrected by its offset (R31). -/
def corrected (raw : BitVec 16) (off : Int) : Int := clampSym 32767 (raw.toInt - off)

/-- g, the number of the job's period less the number of the history's period (R32). -/
def periodGap (h : Hidden) (period : Nat) : Int := (period : Int) - h.histPeriod

/-- The extrapolated angle θ_prev + g·ω modulo 65 536 (R33). -/
def extrapolated (h : Hidden) (period : Nat) : Nat := angleMod (h.thetaPrev + periodGap h period * h.omega)

/-- The angle and the speed of a job (R32, R33): `angle` is the report's angle when it is valid. -/
def jobAngle (h : Hidden) (period : Nat) (angle : Option Nat) : Nat × Int :=
  match angle with
  | none => (extrapolated h period, h.omega)
  | some th =>
    (th, if h.firstJob then 0
         else if periodGap h period = 1 then wrapAngle ((th : Int) - h.thetaPrev)
         else h.omega)

/-- The angle of a report when its angle-valid bit is set. -/
def reportAngle (r : StageReport) : Option Nat := if r.angleValid then some r.theta.toNat else none

/-- The output angle (R34). -/
def outputAngle (theta : Nat) (omega : Int) (advance : Nat) : Nat := angleMod (theta + omega * advance / 256)

/-- The angle-invalid run count after a normal job's report (R32, R33). -/
def angleRunAfter (run : Nat) (valid : Bool) : Nat := if valid then 0 else min (run + 1) Config.runMax

/-! ## Transforms (2.4) -/

/-- The Clarke stage (R35): iα and iβ. -/
def clarke (ia ib : Int) : Int × Int := (ia, clampSym 32767 (round15 ((ia + 2 * ib) * 18919)))

/-- The Park stage (R37): id and iq at the angle. -/
def park (ia ib : Int) (theta : Nat) : Int × Int :=
  let ab := clarke ia ib
  let c := cosine theta
  let s := sine theta
  (clampSym 32767 (round15 (ab.1 * c + ab.2 * s)), clampSym 32767 (round15 (-ab.1 * s + ab.2 * c)))

/-! ## References (2.5) -/

/-- The interpolated value of period j of N (R38). -/
def interpolate (n j : Nat) (prev cur : Int) : Int := (prev * (n - 1 - j) + cur * (j + 1) + (n / 2 : Nat)) / n

/-- A ramp value moved toward 0 by the rate, without crossing it (R21, R40). -/
def rampMove (rate : Nat) (v : Int) : Int := if v > 0 then max 0 (v - rate) else min 0 (v + rate)

/-- The leader's share term (R39). -/
def shareTerm (leaderIq share : Int) : Int := round15 (leaderIq * share)

/-- The effective q-current limit E (R42). -/
def effLimit (t : Tuning) (grant : Nat) : Nat := max t.iqFloor (t.iqLim * grant / 32767)

/-- The current circle (R43): the references after it, and whether it cut. -/
def circle (imax : Nat) (idr iqr : Int) : Int × Int × Bool :=
  if idr * idr + iqr * iqr > (imax : Int) * imax then
    let d := clampSym imax idr
    (d, clampSym (isqrt ((imax : Int) * imax - d * d).toNat) iqr, true)
  else (idr, iqr, false)

/-! ## Current control (2.6) -/

/-- One PI axis (R45): the candidate accumulator acc′ and the unlimited output v. -/
def piAxis (kp ki : Nat) (acc e ff : Int) : Int × Int :=
  let acc1 := acc + ki * e
  (acc1, (kp * e + 2048) / 4096 + (acc1 + 32768) / 65536 + ff)

/-- The voltage limit L of a job (R46). -/
def voltageLimit (u modLimit : Nat) : Nat := (min ((u * 37837 + 16384) / 32768) 32767 * modLimit + 16384) / 32768

/-- The limited voltages (R46). -/
def limitVoltage (l : Nat) (vd vq : Int) : Int × Int :=
  let d := clampSym l vd
  (d, clampSym (isqrt ((l : Int) * l - d * d).toNat) vq)

/-- The accumulator after the anti-windup test (R47). -/
def antiWindup (acc acc1 v v1 e : Int) : Int :=
  if v1 ≠ v ∧ ((0 < e ∧ 0 < v) ∨ (e < 0 ∧ v < 0)) then acc else clampSym Config.accMax acc1

/-- The new id_fw and the FW_FLOOR flag (R48). -/
def fieldWeaken (t : Tuning) (l : Nat) (idFw vd vq : Int) : Int × Bool :=
  let th : Int := (l * t.fwThreshold / 32768 : Nat)
  if vd * vd + vq * vq > th * th then
    let f := max (idFw - t.fwStep) t.idFwMin
    (f, decide (f = t.idFwMin))
  else (min (idFw + t.fwStep) 0, false)

/-! ## Modulation (2.7) -/

/-- One compare value before the minimum pulse (R52). -/
def compareRaw (p u : Nat) (v : Int) : Nat :=
  if u = 0 then p / 2 else (clamp 0 p ((p * (u + v) + u) / (2 * u))).toNat

/-- The minimum pulse (R53). -/
def minPulse (p cmin c : Nat) : Nat := if c < cmin then 0 else if c > p - cmin then p else c

/-- The phase voltages with the phase offset added (R50, R51). -/
def phases (vd vq : Int) (thetaOut : Nat) : Int × Int × Int :=
  let c := cosine thetaOut
  let s := sine thetaOut
  let va := round15 (vd * c - vq * s)
  let vbeta := round15 (vd * s + vq * c)
  let vb := round15 (-16384 * va + 28378 * vbeta)
  let vc := round15 (-16384 * va - 28378 * vbeta)
  let off := -((max va (max vb vc) + min va (min vb vc)) / 2)
  (va + off, vb + off, vc + off)

/-- The compare values of a record (R50 to R53). -/
def modulate (p cmin u : Nat) (vd vq : Int) (thetaOut : Nat) : Compare :=
  let v := phases vd vq thetaOut
  { a := minPulse p cmin (compareRaw p u v.1)
    b := minPulse p cmin (compareRaw p u v.2.1)
    c := minPulse p cmin (compareRaw p u v.2.2) }

/-- The power of a job (R54). -/
def power (vd vq id iq : Int) : Int := clampSym 32767 ((vd * id + vq * iq + 16384) / 32768)

/-! ## Whole jobs -/

/-- What a normal job stores at its completion (R55): accumulators, id_fw, angle run count, feedback, and the hidden items. -/
structure NormalResult where
  accD : Int
  accQ : Int
  idFw : Int
  angleRun : Nat
  fb : Feedback
  rampQ : Int
  rampD : Int
  deriving DecidableEq, Repr

/-- The references of a normal job before the limits (R38 to R41): q and d, and the ramp values as moved. In STOPPING they come
from the ramp, which the first normal job of the stop sets (R21). -/
def references (r : Record) (h : Hidden) (stopping : Bool) (j : Nat) (leaderIq : Option Int) : Int × Int × Int × Int :=
  if stopping then
    let q0 := if h.rampsSet then h.rampQ else r.status.fb.iqRef
    let d0 := if h.rampsSet then h.rampD else r.status.fb.idRef - h.usedIdFw
    let q := rampMove r.tuning.rampRate q0
    let d := rampMove r.tuning.rampRate d0
    (q, d, q, d)
  else
    let term := match leaderIq with
      | some i => shareTerm i r.setup.share
      | none => 0
    let iq := interpolate h.effN j r.status.iqPrev r.status.iqCur
    (if r.setup.role = .follower then clampSym 32767 (iq + term) else iq,
     interpolate h.effN j r.status.idPrev r.status.idCur, h.rampQ, h.rampD)

/-- A normal job (2.3 to 2.8). -/
def normalJob (r : Record) (h : Hidden) (stopping : Bool) (period j : Nat) (leaderIq : Option Int) (rep : StageReport) :
    NormalResult :=
  let t := r.tuning
  let x := r.status
  let u := rep.u.toNat
  let ang := jobAngle h period (reportAngle rep)
  let thetaOut := outputAngle ang.1 ang.2 t.advance
  let i := park (corrected rep.ia x.offA) (corrected rep.ib x.offB) ang.1
  let ref := references r h stopping j leaderIq
  let idr := clampSym t.idLim (ref.2.1 + x.idFw)
  let lim := effLimit t x.grant
  let iqr := clampSym lim ref.1
  let cir := circle t.imax idr iqr
  let eD := clampSym 32767 (cir.1 - i.1)
  let eQ := clampSym 32767 (cir.2.1 - i.2)
  let piD := piAxis t.kpD t.kiD x.accD eD x.vdFf
  let piQ := piAxis t.kpQ t.kiQ x.accQ eQ x.vqFf
  let l := voltageLimit u t.modLimit
  let v := limitVoltage l piD.2 piQ.2
  let fw := if r.setup.fwOn then fieldWeaken t l x.idFw piD.2 piQ.2 else (x.idFw, false)
  { accD := antiWindup x.accD piD.1 piD.2 v.1 eD
    accQ := antiWindup x.accQ piQ.1 piQ.2 v.2 eQ
    idFw := fw.1
    angleRun := angleRunAfter x.angleRun rep.angleValid
    rampQ := ref.2.2.1
    rampD := ref.2.2.2
    fb :=
      { id := i.1
        iq := i.2
        idRef := cir.1
        iqRef := cir.2.1
        vd := v.1
        vq := v.2
        u := u
        theta := ang.1
        omega := ang.2
        p := power v.1 v.2 i.1 i.2
        cmp := modulate h.effP t.cmin u v.1 v.2 thetaOut
        flags :=
          { qLimit := decide (iqr ≠ ref.1)
            circle := cir.2.2
            dVolt := decide (v.1 ≠ piD.2)
            qVolt := decide (v.2 ≠ piQ.2)
            fwFloor := fw.2 } } }

/-- A blind job (R56): the feedback words after it. Only θ, ω and the compare values change. -/
def blindJob (r : Record) (h : Hidden) (period : Nat) : Feedback :=
  let fb := r.status.fb
  let th := extrapolated h period
  { fb with
    theta := th
    omega := h.omega
    cmp := modulate h.effP r.tuning.cmin fb.u fb.vd fb.vq (outputAngle th h.omega r.tuning.advance) }

/-- The compare values of a measurement job's record (R57). -/
def halfPeriod (p : Nat) : Compare := { a := p / 2, b := p / 2, c := p / 2 }

/-- A measurement job (R57): the feedback words after it, from the feedback words as they stand. -/
def measurementJob (r : Record) (h : Hidden) (period : Nat) (rep : Option StageReport) (now : Feedback) : Feedback :=
  let base : Feedback :=
    { now with idRef := 0, iqRef := 0, vd := 0, vq := 0, p := 0, flags := {}, cmp := halfPeriod h.effP }
  match rep with
  | none => { base with theta := extrapolated h period, omega := h.omega }
  | some rp =>
    let ang := jobAngle h period (reportAngle rp)
    let i := park (corrected rp.ia r.status.offA) (corrected rp.ib r.status.offB) ang.1
    { base with id := i.1, iq := i.2, u := rp.u.toNat, theta := ang.1, omega := ang.2 }

/-- The offset of one phase from its sum of 64 raw samples (R58). -/
def calOffset (sum : Int) : Int := (sum + 32) / 64

/-! ## Fault conditions of a report (1.5) -/

/-- An offset-corrected phase current above the trip level (1.5). -/
def overTrip (offA offB offC : Int) (trip : Nat) (rep : StageReport) : Bool :=
  decide ((corrected rep.ia offA).natAbs > trip) || decide ((corrected rep.ib offB).natAbs > trip) ||
    decide ((corrected rep.ic offC).natAbs > trip)

/-- The first fault found by checks 2 to 8 of a job of a RUNNING or STOPPING channel (R18). `run` is the angle-invalid run count
with this job's report counted. -/
def runningFault (r : Record) (rep : Option StageReport) (run : Nat) : FaultCode :=
  let t := r.tuning
  let x := r.status
  let angle : FaultCode := if run > t.angleGrace then .angleLost else .none
  match rep with
  | none => angle
  | some p =>
    if p.wasReset then .stageReset
    else if p.desat then .gateDesat
    else if overTrip x.offA x.offB x.offC t.trip p then .overcurrent
    else if p.u.toNat > t.uMax then .overvoltage
    else if p.u.toNat < t.uMin then .undervoltage
    else if p.temp.toInt > t.tempLimit then .overtemp
    else angle

end Sys2Proof.Machine
end

