-- ==== Sys2Proof/Machine/Flags.lean ====
section
/-! DEFINITION. The codes of the enumerated settings, states, classes and causes, and the status words built from flags: limit
flags (1.1), STATE_WORD, NODE_STATUS and SHARE_STATUS (7.8), STAGE STATUS (8.7). -/

namespace Sys2Proof.Machine

open Sys2Proof

/-- Coded as channel record word 4 (1.1). -/
def Role.code : Role → Nat
  | .none => 0
  | .leader => 1
  | .follower => 2

/-- Coded as channel record word 35 (1.1). -/
def ChanState.code : ChanState → Nat
  | .off => 0
  | .calibrating => 1
  | .ready => 2
  | .running => 3
  | .stopping => 4
  | .faulted => 5

/-- The values of 1.5. -/
def FaultCode.code : FaultCode → Nat
  | .none => 0
  | .overcurrent => 1
  | .gateDesat => 2
  | .undervoltage => 3
  | .overvoltage => 4
  | .periodLoss => 5
  | .stageReset => 6
  | .integrity => 7
  | .angleLost => 8
  | .overtemp => 9
  | .commLoss => 10
  | .partner => 11
  | .calibration => 12

/-- Coded as channel record word 37 (1.1). -/
def RequestCode.code : RequestCode → Nat
  | .none => 0
  | .arm => 1
  | .run => 2
  | .halt => 3
  | .off => 4
  | .clear => 5

/-- A written request code; 6 to 15 are stored as NONE (R7). -/
def requestOf (b : BitVec 4) : RequestCode :=
  match b.toNat with
  | 1 => .arm
  | 2 => .run
  | 3 => .halt
  | 4 => .off
  | 5 => .clear
  | _ => .none

/-- The limit flags word, Q_LIMIT in bit 0 upward (1.1). -/
def LimitFlags.code (f : LimitFlags) : Nat :=
  bit f.qLimit 0 + bit f.circle 1 + bit f.dVolt 2 + bit f.qVolt 3 + bit f.fwFloor 4

/-- Coded as TIMEBASE word 0 (3.1). -/
def TbState.code : TbState → Nat
  | .free => 0
  | .acquire => 1
  | .locked => 2
  | .holdover => 3

/-- Coded as MAP CONTROL word 0 (7.2). -/
def WalkState.code : WalkState → Nat
  | .disabled => 0
  | .ready => 1
  | .walking => 2
  | .halted => 3

/-- Coded as MAP CONTROL word 3 (7.2). -/
def LastEnd.code : LastEnd → Nat
  | .none => 0
  | .endEntry => 1
  | .length => 2
  | .walkLimit => 3
  | .overrun => 4
  | .halt => 5
  | .cut => 6

/-- Coded as NODE word 6 (6.3). -/
def PortLink.code : PortLink → Nat
  | .down => 0
  | .training => 1
  | .up => 2

/-- Coded as NODE word 1 (6.3). -/
def Topology.code : Topology → Nat
  | .auto => 0
  | .through => 1
  | .loop => 2

/-- Coded as NODE word 2 (6.3). -/
def Participation.code : Participation → Nat
  | .active => 0
  | .passive => 1

/-- Coded as NODE word 8 (6.3). -/
def Path.code : Path → Nat
  | .outD => 0
  | .outU => 1

/-- A port as detail word 0 of LINK_CHANGE (9.1). -/
def portCode : Port → Nat
  | .u => 0
  | .d => 1

/-- Reply status codes (8.1). -/
def ReplyStatus.code : ReplyStatus → Nat
  | .ok => 0
  | .pending => 1
  | .busy => 2
  | .badRequest => 3
  | .denied => 4
  | .integrity => 5
  | .timeout => 6
  | .stageAbsent => 7

/-- The place of a class in the pending set and the alert map. -/
def EventClass.place : EventClass → Fin 16
  | .integrityFatal => 0
  | .channelFault => 1
  | .syncHoldover => 2
  | .syncLost => 3
  | .mapHalt => 4
  | .mapLimit => 5
  | .budgetLimit => 6
  | .setpointMiss => 7
  | .jobLate => 8
  | .sampleMiss => 9
  | .frameDamaged => 10
  | .shortFrame => 11
  | .configReject => 12
  | .integrityCorrected => 13
  | .traceDone => 14
  | .linkChange => 15

/-- The class number, 1 to 16 (9.1). -/
def EventClass.number (c : EventClass) : Nat := c.place.val + 1

/-- The code of a protected memory (10.1). -/
def MemId.code : MemId → Nat
  | .channel => 0
  | .map => 1
  | .alert => 2
  | .trace => 3

/-- Recorder state, TRACE word 0 (11.1). -/
def TraceState.code : TraceState → Nat
  | .idle => 0
  | .filling => 1
  | .armed => 2
  | .post => 3
  | .done => 4

/-- Trigger source, TRACE word 12 (11.1). -/
def TraceSource.code : TraceSource → Nat
  | .command => 0
  | .event => 1
  | .rising => 2
  | .falling => 3

/-- Entry action, bits 31 to 29 of MAP word 0 (7.8). -/
def Action.code : Action → Nat
  | .endWalk => 0
  | .take => 1
  | .put => 2
  | .takeNode => 3
  | .putNode => 4
  | .skipUnless => 5

/-- A detail of two numbers; signed values are carried sign-extended (9.1). -/
def detail (a b : Int) : Detail := { w0 := toWord a, w1 := toWord b }

/-- The number of occupied places of the pending set (R157). -/
def Events.pendingCount (e : Events) : Nat := e.pending.toList.countP Option.isSome

/-- The highest pending class, the lowest class number, or 0 when the set is empty (R157). -/
def Events.highest (e : Events) : Nat :=
  match e.pending.toList.findIdx? Option.isSome with
  | some i => i + 1
  | none => 0

/-- STATE_WORD (7.8). -/
def stateWord (s : Status) : Word :=
  toWord (s.state.code + s.fault.code * 16 + s.latch.code * 256 + s.fb.flags.code * 4096 : Nat)

/-- NODE_STATUS (7.8). -/
def nodeStatusWord (tb : Timebase) (w : WalkState) (e : Events) : Word :=
  toWord (tb.state.code + bit tb.syncFault 2 + w.code * 16 + e.pendingCount * 256 + e.highest * 65536 : Nat)

/-- SHARE_STATUS (7.8); A above 1 048 575 is carried as 1 048 575 (R106). -/
def shareStatusWord (sh : Share) : Word := toWord (min sh.remaining 1048575 + bit sh.restricted 31 : Nat)

/-- The settling flag (R86). -/
def Settling.flag : Settling → Bool
  | .none => false
  | _ => true

/-- STAGE STATUS (8.7; log 30 for bit 3). -/
def stageStatusWord (l : Link) : Nat :=
  bit l.present 0 + bit l.settling.flag 1 + bit l.note 2 + bit l.pass.isSome 3 + l.sentSeq.toNat * 256

end Sys2Proof.Machine
end

