-- ==== Sys2Proof/Machine/Services.lean ====
section
/-! DEFINITION. Operations on the shared services alone: raising an event (09), reading and storing a word of a protected memory
(10), and what the trace recorder does at a raise (11). -/

namespace Sys2Proof.Machine

open Sys2Proof

/-! ## Protected words (10) -/

/-- A number that names a location, rising with memory, index and word. -/
def Loc.key (l : Loc) : Nat := l.mem.code * 4294967296 + l.index * 65536 + l.word

/-- Detail word 1 of the integrity events: index in bits 31 to 16, word in bits 15 to 0 (10.1). -/
def Loc.place (l : Loc) : Nat := l.index * 65536 + l.word

/-- The detail of INTEGRITY_FATAL and INTEGRITY_CORRECTED (9.1). -/
def Loc.detail (l : Loc) : Detail := Machine.detail l.mem.code l.place

/-- The flaw of a word; a word not listed is good. -/
def flawLookup (k : Nat) : List (Nat × Flaw) → Option Flaw
  | [] => none
  | p :: m => if p.1 = k then some p.2 else flawLookup k m

/-- Makes a word good. -/
def flawErase (k : Nat) : List (Nat × Flaw) → List (Nat × Flaw)
  | [] => []
  | p :: m => if p.1 = k then m else p :: flawErase k m

/-- Makes a word bad. -/
def flawInsert (k : Nat) (f : Flaw) : List (Nat × Flaw) → List (Nat × Flaw)
  | [] => [(k, f)]
  | p :: m => if k < p.1 then (k, f) :: p :: m else if p.1 = k then (k, f) :: m else p :: flawInsert k f m

/-- All keys of the list lie above `k` and rise strictly. -/
def risingFrom (k : Nat) : List (Nat × Flaw) → Bool
  | [] => true
  | p :: m => decide (k < p.1) && risingFrom p.1 m

/-- The canonical form of the flaws: keys strictly rising, so equal sets of flaws are equal lists. -/
def Memory.wf : List (Nat × Flaw) → Bool
  | [] => true
  | p :: m => risingFrom p.1 m

/-- The flaw of a location. -/
def Services.flawAt (v : Services) (l : Loc) : Option Flaw := flawLookup l.key v.integ.flaws

/-- A corrected reading: written back, counted and captured (R165). The event is raised by the caller. -/
def Services.noteCorrected (v : Services) (l : Loc) : Services :=
  { v with integ := { v.integ with
      corrected := min (v.integ.corrected + 1) Config.integMax
      corrCapture := some l
      flaws := flawErase l.key v.integ.flaws } }

/-- An uncorrectable reading: counted and captured (R165). The event is raised by the caller. -/
def Services.noteUncorrectable (v : Services) (l : Loc) : Services :=
  { v with integ := { v.integ with
      uncorrectable := min (v.integ.uncorrectable + 1) Config.integMax
      uncCapture := some l } }

/-! ## Raising an event (09) -/

/-- A raise of the trigger class triggers a FILLING or ARMED recorder with the source EVENT, whether or not the class is enabled
(R175). -/
def Trace.onRaise (t : Trace) (c : EventClass) : Trace :=
  if (t.state = .filling ∨ t.state = .armed) ∧ t.source = .event ∧ t.trigClass = c.number then
    { t with state := .post, trigSample := t.sample, postDone := 0 }
  else t

/-- What a raise does to its place of the pending set (R156). -/
def pendPlace (d : Detail) : Option Pending → Pending
  | none => { detail := d, count := 1 }
  | some p => { p with count := bumpRun p.count }

/-- A raise reaches the recorder, and the pending set if the class is enabled (R156, R175). -/
def Services.enter (v : Services) (c : EventClass) (d : Detail) (enabled : Bool) : Services :=
  { v with
    trace := v.trace.onRaise c
    events := if enabled then
        { v.events with pending := v.events.pending.set c.place (pendPlace d v.events.pending[c.place]) }
      else v.events }

/-- The location of a class's enable word (10.1). -/
def enableLoc (c : EventClass) : Loc := { mem := .alert, index := c.number, word := 0 }

/-- A raise, its enable read through the check bits (R156, R160). A reading that finds an error raises an integrity event, whose
own enable is read in turn; `n` bounds that chain, which never exceeds five readings (log 12). -/
def Services.raiseN : Nat → Services → EventClass → Detail → Services
  | 0, v, c, d => v.enter c d true
  | n + 1, v, c, d =>
    match v.flawAt (enableLoc c) with
    | none => v.enter c d v.events.alert[c.place].enable
    | some .single =>
      ((v.noteCorrected (enableLoc c)).raiseN n .integrityCorrected (enableLoc c).detail).enter c d
        v.events.alert[c.place].enable
    | some .double =>
      let v1 := v.noteUncorrectable (enableLoc c)
      if c = .integrityFatal then (v1.enter .integrityFatal (enableLoc c).detail true).enter c d true
      else (v1.raiseN n .integrityFatal (enableLoc c).detail).enter c d true

/-- A raise of a class with its detail (R156). -/
def Services.raise (v : Services) (c : EventClass) (d : Detail) : Services := v.raiseN 6 c d

/-! ## Reading and storing protected words (10) -/

/-- A read of a protected word (R165): whether the reader receives a value, and what the reading leaves. The raise of an
uncorrectable enable word of INTEGRITY_FATAL itself does not read that word again (R160). -/
def Services.check (v : Services) (l : Loc) : Bool × Services :=
  match v.flawAt l with
  | none => (true, v)
  | some .single => (true, (v.noteCorrected l).raise .integrityCorrected l.detail)
  | some .double =>
    (false,
      if l = enableLoc .integrityFatal then (v.noteUncorrectable l).enter .integrityFatal l.detail true
      else (v.noteUncorrectable l).raise .integrityFatal l.detail)

/-- A read of several words, each checked in turn; the answer says whether every word was readable. -/
def Services.checkAll (v : Services) : List Loc → Bool × Services
  | [] => (true, v)
  | l :: ls =>
    let r := v.check l
    let rest := r.2.checkAll ls
    (r.1 && rest.1, rest.2)

/-- Every location becomes good. -/
def healAll (m : List (Nat × Flaw)) (ls : List Loc) : List (Nat × Flaw) := ls.foldl (fun m l => flawErase l.key m) m

/-- One store into the words of a protected memory, listed in increasing order: each word becomes good, and an armed injection
that names the memory falls on the first (R165, R169). -/
def Services.store (v : Services) (ls : List Loc) : Services :=
  let healed := healAll v.integ.flaws ls
  match ls, v.integ.kind with
  | l :: _, some f =>
    if l.mem = v.integ.target then
      { v with integ := { v.integ with flaws := flawInsert l.key f healed, kind := none } }
    else { v with integ := { v.integ with flaws := healed } }
  | _, _ => { v with integ := { v.integ with flaws := healed } }

/-- Locations of the channel record. -/
def chanLoc (c : Chan) (w : Nat) : Loc := { mem := .channel, index := c.val, word := w }

/-- Locations of a slot map entry. -/
def mapLoc (i w : Nat) : Loc := { mem := .map, index := i, word := w }

/-- The location of a class's line word, by the class's place. -/
def alertLoc (place w : Nat) : Loc := { mem := .alert, index := place + 1, word := w }

/-- Locations of a trace place. -/
def traceLoc (i w : Nat) : Loc := { mem := .trace, index := i, word := w }

end Sys2Proof.Machine
end

