-- ==== Sys2Proof/Machine/Ops.lean ====
section
/-! DEFINITION. The named operations over the whole state: time, access to channels and links, raising an event, reading and
storing words of the channel records. -/

namespace Sys2Proof.Machine

open Sys2Proof

/-- Brings the local tick count up to an instant; it never runs back (log 2). -/
def State.advance (s : State) (t : Nat) : State := { s with now := max s.now t }

/-- A channel. -/
def State.chan (s : State) (c : Chan) : Channel := s.channels[c]

/-- A channel's record. -/
def State.rcd (s : State) (c : Chan) : Record := (s.chan c).record

/-- A channel's status words. -/
def State.status (s : State) (c : Chan) : Status := (s.rcd c).status

/-- A channel's hidden state. -/
def State.hid (s : State) (c : Chan) : Hidden := (s.chan c).hid

/-- A stage link. -/
def State.link (s : State) (c : Chan) : Link := s.links[c]

/-- Changes one channel. -/
def State.onChan (s : State) (c : Chan) (f : Channel → Channel) : State :=
  { s with channels := s.channels.set c (f (s.chan c)) }

/-- Changes the hidden state of one channel. -/
def State.onHid (s : State) (c : Chan) (f : Hidden → Hidden) : State :=
  s.onChan c fun x => { x with hid := f x.hid }

/-- Changes the counters of one channel. -/
def State.onCounts (s : State) (c : Chan) (f : ChanCounts → ChanCounts) : State :=
  s.onChan c fun x => { x with counts := f x.counts }

/-- Changes one link. -/
def State.onLink (s : State) (c : Chan) (f : Link → Link) : State :=
  { s with links := s.links.set c (f (s.link c)) }

/-- Changes the counters of one link. -/
def State.onLinkCounts (s : State) (c : Chan) (f : LinkCounts → LinkCounts) : State :=
  s.onLink c fun l => { l with counts := f l.counts }

/-- Raises an event (R156). -/
def State.raise (s : State) (c : EventClass) (d : Detail) : State := { s with svc := s.svc.raise c d }

/-- Reads a protected word through its check bits (R165). -/
def State.check (s : State) (l : Loc) : Bool × State := ((s.svc.check l).1, { s with svc := (s.svc.check l).2 })

/-- Reads several protected words in the order given (R165). -/
def State.checkAll (s : State) (ls : List Loc) : Bool × State :=
  ((s.svc.checkAll ls).1, { s with svc := (s.svc.checkAll ls).2 })

/-- Reads several protected words in the order given, with the outcome of each (R165). -/
def State.checkEach (s : State) : List Loc → List Bool × State
  | [] => ([], s)
  | l :: ls => ((s.check l).1 :: ((s.check l).2.checkEach ls).1, ((s.check l).2.checkEach ls).2)

/-- A location put in its place of a list that rises by key, each location once. -/
def Loc.insertIn (l : Loc) : List Loc → List Loc
  | [] => [l]
  | m :: ms => if l.key < m.key then l :: m :: ms else if l.key = m.key then m :: ms else m :: Loc.insertIn l ms

/-- The locations of one read, in increasing order of index and then word, each once (R165). -/
def sortLocs (ls : List Loc) : List Loc := ls.foldr Loc.insertIn []

/-- One read of several protected words (R165): those found uncorrectable, and what the reading leaves. -/
def State.badWords (s : State) (ls : List Loc) : List Loc × State :=
  let ks := sortLocs ls
  let r := s.checkEach ks
  (((ks.zip r.1).filter fun p => !p.2).map Prod.fst, r.2)

/-- The value a channel goes on with: an uncorrectable word is taken as 0 (R166). -/
def orZero (ok : Bool) (v : Int) : Int := if ok then v else 0

/-- A channel's state as a reader takes it: an uncorrectable state word is FAULTED (R166). -/
def takenState (ok : Bool) (st : ChanState) : ChanState := if ok then st else .faulted

/-- A channel's state read through the check bits (R166). -/
def State.readState (s : State) (c : Chan) : ChanState × State :=
  (takenState (s.check (chanLoc c 35)).1 (s.status c).state, (s.check (chanLoc c 35)).2)

/-- One store into words of a channel record: `ws` are the words stored, in increasing order, `f` the new record (R165, R169). -/
def State.storeRecord (s : State) (c : Chan) (ws : List Nat) (f : Record → Record) : State :=
  { s.onChan c fun x => { x with record := f x.record } with svc := s.svc.store (ws.map (chanLoc c)) }

/-- One store into status words of a channel record. -/
def State.storeStatus (s : State) (c : Chan) (ws : List Nat) (f : Status → Status) : State :=
  s.storeRecord c ws fun r => { r with status := f r.status }

/-- The order in which the channels are taken where one happening reaches several: first the channels `pref` names, in its
order, then the others in increasing order (log 7). -/
def channelOrder (pref : List Chan) : List Chan :=
  pref.foldl (fun l c => if c ∈ l then l else l ++ [c]) [] ++ chans.filter (fun c => decide (c ∉ pref))

/-- The gates are on in RUNNING and STOPPING alone (R5). -/
def ChanState.gatesOn : ChanState → Bool
  | .running => true
  | .stopping => true
  | _ => false

end Sys2Proof.Machine
end

