-- ==== Sys2Proof/Machine/Links.lean ====
section
/-! DEFINITION. Stage links (04): the outbound line and its records, presence, settling, pass-through. -/

namespace Sys2Proof.Machine

open Sys2Proof

/-! ## Records on the line (R78, R79) -/

/-- The compare values a record carries: a job's own, or those of the last record started (R79). -/
def RecordSource.cmp (src : RecordSource) (l : Link) : Compare :=
  match src with
  | .job c _ => c
  | _ => l.cmp

/-- The gates a record carries: a job's own, or clear (R79). -/
def RecordSource.gates : RecordSource → Bool
  | .job _ g => g
  | _ => false

/-- The source is a keep-alive (R80). -/
def RecordSource.isKeepAlive : RecordSource → Bool
  | .keepAlive => true
  | _ => false

/-- The pass-through request waiting to be sent (R90). -/
def Link.passWaiting (l : Link) : Option PassRequest :=
  match l.pass with
  | some p => if p.started then none else some p.req
  | none => none

/-- A record is started: its sequence, reset mark, acknowledge and pass-through request are fixed now (R78, R79, R87, R90). -/
def Link.start (l : Link) (now : Nat) (calibrating : Bool) (src : RecordSource) : Link :=
  let rec1 : DutyRecord :=
    { keepAlive := src.isKeepAlive
      seq := l.seq + 1
      cmp := src.cmp l
      gates := src.gates
      resetMark := l.resetWaiting
      ack := calibrating && l.note
      pass := l.passWaiting
      endsAt := now + if l.passWaiting.isSome then Config.recordPassTicks else Config.recordTicks }
  { l with
    seq := rec1.seq
    cmp := rec1.cmp
    gates := rec1.gates
    sending := some rec1
    waiting := none
    resetWaiting := false
    pass := l.pass.map fun p => { p with started := true } }

/-- Settling once a record has been sent: the 20 ms run from the record with the reset mark, unless a further reset waits (R86;
log 37). -/
def Link.settleAfter (l : Link) (now : Nat) (rec1 : DutyRecord) : Settling :=
  if rec1.resetMark ∧ ¬ l.resetWaiting then .untilTick (now + Config.settlingTicks) else l.settling

/-- A record has been sent (R78, R80): the line is free, and the sync symbol of a keep-alive follows. -/
def Link.sent (l : Link) (now : Nat) (rec1 : DutyRecord) : Link :=
  { l with
    sending := none
    sentSeq := rec1.seq
    settling := l.settleAfter now rec1
    lastSync := if rec1.keepAlive then .keepAlive else l.lastSync
    counts := { l.counts with sent := bump l.counts.sent } }

/-- The channel is CALIBRATING, as the acknowledge of a record asks where the was-reset note is set (R87): the state word is then read
through the check bits. -/
def State.readAck (s : State) (c : Chan) : Bool × State :=
  if (s.link c).note then (decide ((s.readState c).1 = .calibrating), (s.readState c).2) else (false, s)

/-- Starts a record of a source on a channel's line now. -/
def State.startRecord (s : State) (c : Chan) (src : RecordSource) : State :=
  (s.readAck c).2.onLink c fun l => l.start s.now (s.readAck c).1 src

/-- Hands a record of a source to a channel's link now (R78): started at once if the line is free, else it becomes the waiting record,
replacing one that waits already. -/
def State.handRecord (s : State) (c : Chan) (src : RecordSource) : State :=
  if (s.link c).sending.isNone then s.startRecord c src else s.onLink c fun l => { l with waiting := some src }

/-- The waiting record of a free line, if there is one, is started at once (R78). -/
def State.startWaitingRecord (s : State) (c : Chan) : State :=
  match (s.link c).waiting with
  | some src => s.startRecord c src
  | none => s

/-! ## Presence (R77) -/

/-- A symbol arrives on the inbound line (R77). -/
def Link.symbol (l : Link) (now : Nat) : Link := { l with present := true, lastSymbol := now }

/-! ## Stage reset (R85, R86) -/

/-- STAGE_RESET taken: a reset waits to be sent and settling begins (R85, R86). -/
def Link.orderReset (l : Link) : Link := { l with resetWaiting := true, settling := .awaiting }

/-! ## Commands of the links' lines and timers -/

/-- STAGE_SYMBOL (R77). -/
def execStageSymbol (t : Nat) (c : Chan) (s : State) : Host.Outcome State Fault Refusal :=
  .next ((s.advance t).onLink c fun l => l.symbol (max s.now t))

/-- STAGE_SILENCE (R77): 200 ticks after the last symbol of a PRESENT link, nothing having arrived. -/
def execStageSilence (c : Chan) (s : State) : Host.Outcome State Fault Refusal :=
  if (s.link c).present then
    .next ((s.advance ((s.link c).lastSymbol + Config.silenceTicks)).onLink c fun l => { l with present := false })
  else .next s

/-- STAGE_RECORD_SENT (R78, R80, R86): the record being sent has gone out. -/
def execStageRecordSent (c : Chan) (s : State) : Host.Outcome State Fault Refusal :=
  match (s.link c).sending with
  | none => .next s
  | some r =>
    let s1 := s.advance r.endsAt
    .next ((s1.onLink c fun l => l.sent s1.now r).startWaitingRecord c)

/-- SETTLING_END (R86). -/
def execSettlingEnd (c : Chan) (s : State) : Host.Outcome State Fault Refusal :=
  match (s.link c).settling with
  | .untilTick t => .next ((s.advance t).onLink c fun l => { l with settling := .none })
  | _ => .next s

end Sys2Proof.Machine
end

