-- ==== Sys2Proof/Machine/Channels.lean ====
section
/-! DEFINITION. The channel state machine (01): pairs, entering and leaving the states, faults and stops, request codes. -/

namespace Sys2Proof.Machine

open Sys2Proof

/-! ## Pairs (R23) -/

/-- Two channels name each other in opposite roles (R23): `a` and `b` are the role and the partner of each. -/
def pairValid (c : Chan) (a b : Role × Chan) : Bool :=
  decide (a.2 ≠ c ∧ b.2 = c ∧ ((a.1 = .leader ∧ b.1 = .follower) ∨ (a.1 = .follower ∧ b.1 = .leader)))

/-- The role and the partner that a channel's record holds. -/
def Record.pairing (r : Record) : Role × Chan := (r.setup.role, r.setup.partner)

/-- The partner of a channel whose pair is valid (R23), by the held words. -/
def State.partner (s : State) (c : Chan) : Option Chan :=
  let a := (s.rcd c).pairing
  if pairValid c a (s.rcd a.2).pairing then some a.2 else none

/-- The words of a channel's record that hold its pairing. -/
def pairLocs (c : Chan) : List Loc := [chanLoc c 4, chanLoc c 5]

/-- The role and the partner of a channel, read through the check bits: an uncorrectable word as 0, so NONE and channel 0 (R166). -/
def State.readPairing (s : State) (c : Chan) : (Role × Chan) × State :=
  let r := s.checkEach (pairLocs c)
  let a := (s.rcd c).pairing
  ((if r.1.getD 0 true then a.1 else .none, if r.1.getD 1 true then a.2 else 0), r.2)

/-- What a rule that asks for a valid pair learns (R23): the channel's role, and its partner if the pair is valid. -/
structure PairView where
  role : Role
  partner : Option Chan
  deriving DecidableEq, Repr

/-- The pair of a channel evaluated afresh (R23): its own two words are read, and where its role is one the rule asks about, those of the
partner it names. That they are two reads, the channel's own words first whichever index is lower, is the model's reading of R165 (log 44). -/
def State.readPair (s : State) (c : Chan) (asks : Role → Bool) : PairView × State :=
  let a := s.readPairing c
  if asks a.1.1 = false ∨ a.1.2 = c then ({ role := a.1.1, partner := none }, a.2)
  else
    let b := a.2.readPairing a.1.2
    ({ role := a.1.1, partner := if pairValid c a.1 b.1 then some a.1.2 else none }, b.2)

/-! ## Entering states -/

/-- A new state leaves the states that a job which began in `began` goes with (R6): RUNNING and STOPPING together, or CALIBRATING. -/
def leavesClass (began new : ChanState) : Bool :=
  !new.gatesOn && decide (new ≠ .calibrating) && (began.gatesOn || decide (began = .calibrating))

/-- Marks the job in service of a channel that leaves the class of states the job began in (R6; log 15). -/
def ComputeUnit.markLeft (u : ComputeUnit) (c : Chan) (new : ChanState) : ComputeUnit :=
  { u with service := u.service.map fun v => if v.job.chan = c ∧ leavesClass v.state0 new then { v with left := true } else v }

/-- A channel enters a state, storing the words `ws` of its status (35 among them) in one store. -/
def State.enterState (s : State) (c : Chan) (st : ChanState) (ws : List Nat) (f : Status → Status) : State :=
  { s.storeStatus c ws fun x => { f x with state := st } with cu := s.cu.markLeft c st }

/-- acc_d, acc_q and id_fw at 0 (R14, R16, R19, R22). -/
def Status.clearLoop (x : Status) : Status := { x with accD := 0, accQ := 0, idFw := 0 }

/-- Both ramp values at 0 and the stop kind cleared (R16, R22). -/
def Hidden.clearStop (h : Hidden) : Hidden := { h with rampQ := 0, rampD := 0, rampsSet := false, stopKind := .none }

/-- The link sends a gate-off record at once (R5, R79). -/
def State.gateOff (s : State) (c : Chan) : State := s.handRecord c .gateOff

/-- From RUNNING to STOPPING with a stop kind and a fault code (R15, R19, R22). -/
def State.enterStopping (s : State) (c : Chan) (k : StopKind) (code : FaultCode) : State :=
  (s.enterState c .stopping [35, 36] fun x => { x with fault := code }).onHid c fun h =>
    { h with stopKind := k, stopPeriods := 0, rampQ := 0, rampD := 0, rampsSet := false }

/-- CHANNEL_FAULT with the channel number and the code (R19). -/
def State.raiseFault (s : State) (c : Chan) (code : FaultCode) : State :=
  s.raise .channelFault (detail c.val code.code)

/-- A channel has a role in a pair. -/
def Role.paired (r : Role) : Bool := decide (r ≠ .none)

/-- What a reaction does to the partner of a channel (R15, R24): the pair and the partner's state are read through the check bits, and a
RUNNING partner that the reaction is for takes it. -/
def State.onPartner (s : State) (c : Chan) (isFor : Role → Bool) (react : State → Chan → State) : State :=
  let r := s.readPair c isFor
  match r.1.partner with
  | some q =>
    let x := r.2.readState q
    if x.1 = .running then react x.2 q else x.2
  | none => r.2

/-- The partner of a valid pair, if RUNNING, enters a fault stop with the code PARTNER (R24). -/
def State.partnerFault (s : State) (c : Chan) : State :=
  s.onPartner c Role.paired fun x q => (x.enterStopping q .fault .partner).raiseFault q .partner

/-- A follower, if RUNNING, halts when its leader leaves RUNNING other than by a fault reaction (R15). -/
def State.leaderLeft (s : State) (c : Chan) : State :=
  s.onPartner c (fun r => decide (r = .leader)) fun x q => x.enterStopping q .halt .none

/-- A channel enters FAULTED with a code (R19) from the state it was read to be in, none being a state word that could not be read, which
counts as one with the gates on (log 11). `atOnce` says that a gate-off record is due if it comes from RUNNING or STOPPING; at the
completion of its own job that job's record carries the clear gates instead (R5). -/
def State.enterFaulted (s : State) (c : Chan) (code : FaultCode) (old : Option ChanState) (atOnce : Bool) : State :=
  if old.all ChanState.gatesOn then
    let s1 := (s.enterState c .faulted [35, 36, 47, 48, 49] fun x => { x.clearLoop with fault := code }).onHid c
      Hidden.clearStop
    if atOnce then s1.gateOff c else s1
  else s.enterState c .faulted [35, 36] fun x => { x with fault := code }

/-- An immediate fault (R19): FAULTED, CHANNEL_FAULT, and the partner's reaction (R24). -/
def State.immediateFault (s : State) (c : Chan) (code : FaultCode) (old : Option ChanState) (atOnce : Bool) : State :=
  ((s.enterFaulted c code old atOnce).raiseFault c code).partnerFault c

/-- A failed calibration (R12): FAULTED with the code CALIBRATION; its reaction is none for a pair (log 29). -/
def State.calibrationFault (s : State) (c : Chan) : State :=
  (s.enterFaulted c .calibration (some .calibrating) true).raiseFault c .calibration

/-- A ramp fault of a RUNNING or STOPPING channel (R19), `st` being the state it was read to be in. -/
def State.rampFault (s : State) (c : Chan) (code : FaultCode) (st : ChanState) : State :=
  match st with
  | .running => ((s.enterStopping c .fault code).raiseFault c code).partnerFault c
  | .stopping =>
    if (s.hid c).stopKind = .halt then
      ((((s.storeStatus c [36] fun x => { x with fault := code }).onHid c fun h => { h with stopKind := .fault }).raiseFault c
        code).partnerFault c)
    else s
  | _ => s

/-- A stop ends (R22): READY after a halt, FAULTED with the code kept after a fault. -/
def State.endStop (s : State) (c : Chan) : State :=
  (s.enterState c (if (s.hid c).stopKind = .fault then .faulted else .ready) [35, 47, 48, 49] Status.clearLoop).onHid c
    Hidden.clearStop

/-- What OFF leaves of the hidden state (R12, R16, R69): no stop, no calibration, no events to come. -/
def Hidden.toOff (h : Hidden) : Hidden :=
  { h.clearStop with sumA := 0, sumB := 0, sumC := 0, calSamples := 0, calPeriods := 0, events := [] }

/-- A channel enters OFF (R16, R70, R75) from the state it was read to be in: a bad state word counts as FAULTED (R166), which has no
gates to turn off and leaves no follower. -/
def State.enterOff (s : State) (c : Chan) (old : ChanState) : State :=
  let s1 := (s.enterState c .off [35, 36, 47, 48, 49] fun x => { x.clearLoop with fault := .none }).onHid c Hidden.toOff
  let s2 := if old.gatesOn then s1.gateOff c else s1
  let s3 := s2.onLink c fun l => { l with window := none }
  let s4 := { s3 with cu := { s3.cu with queue := s3.cu.queue.filter fun j => decide (j.chan ≠ c) } }
  if old = .running then s4.leaderLeft c else s4

/-! ## ARM (R4, R9, R10) -/

/-- The reasons of CONFIG_REJECT (9.1). -/
inductive RejectReason where
  | timebase
  | stageAbsent
  | stageSettling
  | period
  | pair
  | undervoltage
  | leader
  deriving DecidableEq, Repr

/-- The codes of the reasons (9.1). -/
def RejectReason.code : RejectReason → Nat
  | .timebase => 1
  | .stageAbsent => 2
  | .stageSettling => 3
  | .period => 4
  | .pair => 5
  | .undervoltage => 6
  | .leader => 7

/-- CONFIG_REJECT with the channel number and the reason (R9, R13). -/
def State.reject (s : State) (c : Chan) (r : RejectReason) : State := s.raise .configReject (detail c.val r.code)

/-- The fifth precondition of ARM fails (R9, R23): the channel has a role and no valid pair. A word of the two pairings that is
uncorrectable has no value to fail by, so the ARM goes on, and the first job finds the word (R171; log 44). The
partner's words are a second read, as in `readPair`. -/
def State.armPairFails (s : State) (c : Chan) : Bool × State :=
  let a := s.checkEach (pairLocs c)
  let x := (s.rcd c).pairing
  if ¬ a.1.all id ∨ x.1 = .none then (false, a.2)
  else if x.2 = c then (true, a.2)
  else
    let b := a.2.checkEach (pairLocs x.2)
    (b.1.all id && !pairValid c x (s.rcd x.2).pairing, b.2)

/-- The first precondition of ARM that fails (R9); the PWM period is the ring cycle length divided by N (R4). The setup words are read
through the check bits; an uncorrectable one fails no precondition and is left for the first job to find (R171; log 44). -/
def State.armReason (s : State) (c : Chan) : Option RejectReason × State :=
  if s.tb.state ≠ .locked then (some .timebase, s)
  else if ¬ (s.link c).present then (some .stageAbsent, s)
  else if (s.link c).settling.flag then (some .stageSettling, s)
  else
    let n := s.check (chanLoc c 0)
    let p := s.tb.cycleLen / (s.rcd c).setup.periods
    if n.1 ∧ (p < 2000 ∨ 20000 < p) then (some .period, n.2)
    else
      let r := n.2.armPairFails c
      (if r.1 then some .pair else none, r.2)

/-- The effective deadline fixed at ARM (R4). -/
def effectiveDeadline (p window deadline : Nat) : Nat :=
  min (max (if deadline = 0 then p / 2 else deadline) (window + Config.jobTicks)) (p - 100)

/-- The N period events a boundary generates for a channel (R69). -/
def cycleEvents (boundary offset p n : Nat) : List PeriodEvent :=
  (List.range n).map fun j => { j := j, time := boundary + offset + j * p, boundary := boundary }

/-- The hidden state on entering CALIBRATING (R4, R10, R33): the effective settings are fixed, calibration and history start
afresh, and the cycle in progress gives the events that fall after now (log 36). -/
def Hidden.armed (h : Hidden) (p n offset window deadline : Nat) (events : List PeriodEvent) : Hidden :=
  { h with
    sumA := 0
    sumB := 0
    sumC := 0
    calSamples := 0
    calPeriods := 0
    effP := p
    effN := n
    effOffset := offset
    effWindow := window
    effDeadline := deadline
    thetaPrev := 0
    omega := 0
    histPeriod := -1
    firstJob := true
    periodCount := 0
    events := events }

/-- A job in service of a channel that is armed began before the ARM (R10, R33; log 35). -/
def ComputeUnit.markRearmed (u : ComputeUnit) (c : Chan) : ComputeUnit :=
  { u with service := u.service.map fun v => if v.job.chan = c then { v with rearmed := true } else v }

/-- A channel enters CALIBRATING (R4, R10, R82, R84): the words it fixes are read through the check bits, and a free value stands for one
that is uncorrectable (log 48). Of the cycle in progress it has the events later than now that lie before the boundary of the cycle
length in use (log 36). -/
def State.enterCalibrating (s : State) (c : Chan) : State :=
  let r := s.checkEach [chanLoc c 0, chanLoc c 1, chanLoc c 2, chanLoc c 3]
  let q := if r.1.all id then r.2 else { r.2 with lostArms := s.lostArms + 1 }
  let read (w stored : Nat) : Nat := if r.1.getD w true then stored else Config.lostSetting s.lostArms w
  let x := (s.rcd c).setup
  let n := read 0 x.periods
  let p := s.tb.cycleLen / n
  let off := min (read 1 x.offset) (p - 1)
  let window := read 2 x.window
  let s1 := if r.1.getD 0 true ∧ r.1.getD 1 true ∧ x.offset > p - 1 then
      q.storeRecord c [1, 35] fun k =>
        { k with setup := { k.setup with offset := p - 1 }, status := { k.status with state := .calibrating } }
    else q.storeStatus c [35] fun y => { y with state := .calibrating }
  let s2 := s1.onHid c fun h =>
    h.armed p n off window (effectiveDeadline p window (read 3 x.deadline))
      ((cycleEvents s.tb.lastBoundary off p n).filter fun e =>
        decide (s.now < e.time ∧ e.time < s.tb.lastBoundary + s.tb.lenInUse))
  { s2.onLink c fun l => { l with report := none, waiver := true } with cu := s.cu.markRearmed c }

/-- ARM acting on a channel in OFF (R9). -/
def State.actArm (s : State) (c : Chan) : State :=
  let r := s.armReason c
  match r.1 with
  | some why => r.2.reject c why
  | none => r.2.enterCalibrating c

/-! ## RUN (R13, R14) -/

/-- The first condition of RUN that fails (R13): u_min, the pair and the leader's state are read through the check bits (R166). -/
def State.runReason (s : State) (c : Chan) : Option RejectReason × State :=
  match (s.link c).report with
  | none => (some .undervoltage, s)
  | some rep =>
    let u := s.check (chanLoc c 24)
    if (rep.u.toNat : Int) < orZero u.1 (s.rcd c).tuning.uMin then (some .undervoltage, u.2)
    else
      let r := u.2.readPair c fun x => decide (x = .follower)
      match r.1.role, r.1.partner with
      | .follower, some q =>
        let x := r.2.readState q
        (if x.1 = .running then none else some .leader, x.2)
      | _, _ => (none, r.2)

/-- The status words on entering RUNNING (R14). -/
def Status.toRunning (x : Status) : Status :=
  { x.clearLoop with
    missRun := 0
    degradedRun := 0
    angleRun := 0
    fb := { x.fb with idRef := 0, iqRef := 0 } }

/-- A channel enters RUNNING (R14). -/
def State.enterRunning (s : State) (c : Chan) : State :=
  (s.enterState c .running [35, 47, 48, 49, 51, 52, 53, 56, 57] Status.toRunning).onHid c fun h =>
    { h.clearStop with usedIdFw := 0 }

/-- A RUN edge in READY (R13). -/
def State.actRun (s : State) (c : Chan) : State :=
  let r := s.runReason c
  match r.1 with
  | some why => r.2.reject c why
  | none => r.2.enterRunning c

/-! ## CLEAR (R17) -/

/-- The words the CLEAR test reads (R166). -/
def clearLocs (c : Chan) : List Loc := [23, 24, 25, 26, 38, 39, 40].map (chanLoc c)

/-- A fault condition in the latest valid report (R17); uncorrectable words are taken as 0 (R166). -/
def clearBlocked (r : Record) (ok : List Bool) (rep : StageReport) : Bool :=
  let v (i : Nat) (x : Int) : Int := orZero (ok.getD i true) x
  rep.desat ||
    overTrip (v 4 r.status.offA) (v 5 r.status.offB) (v 6 r.status.offC) (v 0 r.tuning.trip).toNat rep ||
    decide ((rep.u.toNat : Int) < v 1 r.tuning.uMin) || decide ((rep.u.toNat : Int) > v 2 r.tuning.uMax) ||
    decide (rep.temp.toInt > v 3 r.tuning.tempLimit)

/-- CLEAR acting on a FAULTED channel (R17). -/
def State.actClear (s : State) (c : Chan) : State :=
  match (s.link c).report with
  | none => s.enterOff c .faulted
  | some rep =>
    let r := s.checkEach (clearLocs c)
    if clearBlocked (s.rcd c) r.1 rep then r.2 else r.2.enterOff c .faulted

/-! ## The latch (R7) -/

/-- HALT acting on a RUNNING channel (R15). -/
def State.actHalt (s : State) (c : Chan) : State := (s.enterStopping c .halt .none).leaderLeft c

/-- A request code acts against the state the channel reads (R7, R16 and the summary of transitions); `old` is the code the latch
held. A code with no entry for the state leaves it as it is. -/
def State.actCode (s : State) (c : Chan) (code old : RequestCode) (st : ChanState) : State :=
  match code, st with
  | .arm, .off => s.actArm c
  | .run, .ready => if old = .run then s else s.actRun c
  | .halt, .running => s.actHalt c
  | .off, .calibrating => s.enterOff c .calibrating
  | .off, .ready => s.enterOff c .ready
  | .off, .running => s.enterOff c .running
  | .off, .stopping => s.enterOff c .stopping
  | .clear, .faulted => s.actClear c
  | _, _ => s

/-- A code is written into a channel's latch and acts (R7). The channel reads its state and its latch through the check bits:
an uncorrectable state is taken as FAULTED, an uncorrectable latch as NONE (R166). The latch is a store of its own, made before the
stores of the action its code causes (R169; log 10). -/
def State.writeLatch (s : State) (c : Chan) (code : RequestCode) : State :=
  let r := s.checkEach [chanLoc c 35, chanLoc c 37]
  let st := takenState (r.1.getD 0 true) (s.status c).state
  let old := if r.1.getD 1 true then (s.status c).latch else .none
  (r.2.storeStatus c [37] fun x => { x with latch := code }).actCode c code old st

end Sys2Proof.Machine
end

