-- ==== Sys2Proof/Machine/Record.lean ====
section
/-! DEFINITION. The channel record by word number: what a word reads as (1.1), and what a written value is stored as (R2). -/

namespace Sys2Proof.Machine

open Sys2Proof

/-- The value of a word of the channel record (1.1). -/
def Record.word (r : Record) (w : Nat) : Int :=
  let s := r.setup
  let t := r.tuning
  let x := r.status
  let f := x.fb
  match w with
  | 0 => s.periods
  | 1 => s.offset
  | 2 => s.window
  | 3 => s.deadline
  | 4 => s.role.code
  | 5 => s.partner.val
  | 6 => s.share
  | 7 => bit s.fwOn 0
  | 8 => s.offsetLimit
  | 9 => s.weight
  | 10 => t.kpD
  | 11 => t.kiD
  | 12 => t.kpQ
  | 13 => t.kiQ
  | 14 => t.modLimit
  | 15 => t.advance
  | 16 => t.fwThreshold
  | 17 => t.fwStep
  | 18 => t.idFwMin
  | 19 => t.iqLim
  | 20 => t.idLim
  | 21 => t.imax
  | 22 => t.iqFloor
  | 23 => t.trip
  | 24 => t.uMin
  | 25 => t.uMax
  | 26 => t.tempLimit
  | 27 => t.rampRate
  | 28 => t.stopLimit
  | 29 => t.zeroThreshold
  | 30 => t.missLimit
  | 31 => t.degradedLimit
  | 32 => t.angleGrace
  | 33 => t.cmin
  | 34 => t.rank
  | 35 => x.state.code
  | 36 => x.fault.code
  | 37 => x.latch.code
  | 38 => x.offA
  | 39 => x.offB
  | 40 => x.offC
  | 41 => x.iqPrev
  | 42 => x.iqCur
  | 43 => x.idPrev
  | 44 => x.idCur
  | 45 => x.vdFf
  | 46 => x.vqFf
  | 47 => x.accD
  | 48 => x.accQ
  | 49 => x.idFw
  | 50 => x.grant
  | 51 => x.missRun
  | 52 => x.degradedRun
  | 53 => x.angleRun
  | 54 => f.id
  | 55 => f.iq
  | 56 => f.idRef
  | 57 => f.iqRef
  | 58 => f.vd
  | 59 => f.vq
  | 60 => f.u
  | 61 => f.theta
  | 62 => f.omega
  | 63 => f.p
  | 64 => f.cmp.a
  | 65 => f.cmp.b
  | 66 => f.cmp.c
  | 67 => f.flags.code
  | _ => 0

/-- The number of words of the channel record (1.1). -/
def recordWords : Nat := 68

/-- All words of a channel record in increasing order. -/
def recordLocs (c : Chan) : List Loc := (List.range recordWords).map (chanLoc c)

/-- N rounded down to a power of two, 1 to 16 (R2). -/
def powerOfTwo (n : Nat) : Nat := if n < 2 then 1 else if n < 4 then 2 else if n < 8 then 4 else if n < 16 then 8 else 16

/-- A role as written; above 2 it is NONE (R2). -/
def roleOf (n : Nat) : Role := if n = 1 then .leader else if n = 2 then .follower else .none

/-- Stores an already clamped value into a setup or tuning word. -/
def Record.put (r : Record) (w : Nat) (v : Int) : Record :=
  let s := r.setup
  let t := r.tuning
  let n := v.toNat
  match w with
  | 0 => { r with setup := { s with periods := n } }
  | 1 => { r with setup := { s with offset := n } }
  | 2 => { r with setup := { s with window := n } }
  | 3 => { r with setup := { s with deadline := n } }
  | 4 => { r with setup := { s with role := roleOf n } }
  | 5 => { r with setup := { s with partner := Fin.ofNat 8 n } }
  | 6 => { r with setup := { s with share := v } }
  | 7 => { r with setup := { s with fwOn := decide (n ≠ 0) } }
  | 8 => { r with setup := { s with offsetLimit := n } }
  | 9 => { r with setup := { s with weight := n } }
  | 10 => { r with tuning := { t with kpD := n } }
  | 11 => { r with tuning := { t with kiD := n } }
  | 12 => { r with tuning := { t with kpQ := n } }
  | 13 => { r with tuning := { t with kiQ := n } }
  | 14 => { r with tuning := { t with modLimit := n } }
  | 15 => { r with tuning := { t with advance := n } }
  | 16 => { r with tuning := { t with fwThreshold := n } }
  | 17 => { r with tuning := { t with fwStep := n } }
  | 18 => { r with tuning := { t with idFwMin := v } }
  | 19 => { r with tuning := { t with iqLim := n } }
  | 20 => { r with tuning := { t with idLim := n } }
  | 21 => { r with tuning := { t with imax := n } }
  | 22 => { r with tuning := { t with iqFloor := n } }
  | 23 => { r with tuning := { t with trip := n } }
  | 24 => { r with tuning := { t with uMin := n } }
  | 25 => { r with tuning := { t with uMax := n } }
  | 26 => { r with tuning := { t with tempLimit := n } }
  | 27 => { r with tuning := { t with rampRate := n } }
  | 28 => { r with tuning := { t with stopLimit := n } }
  | 29 => { r with tuning := { t with zeroThreshold := n } }
  | 30 => { r with tuning := { t with missLimit := n } }
  | 31 => { r with tuning := { t with degradedLimit := n } }
  | 32 => { r with tuning := { t with angleGrace := n } }
  | 33 => { r with tuning := { t with cmin := n } }
  | 34 => { r with tuning := { t with rank := n } }
  | _ => r

/-- A duty deadline as written (R2): 0 stays 0; any other value is clamped to window + 150 up to P − 100, or is P − 100 where
that range is empty. -/
def clampDeadline (window p d : Nat) : Nat :=
  if d = 0 then 0
  else if window + Config.jobTicks > p - 100 then p - 100
  else max (window + Config.jobTicks) (min d (p - 100))

/-- The range of an unsigned tuning or setup word that is only clamped (1.1, R2): lower and upper end. -/
def plainRange (w : Nat) : Nat × Nat :=
  match w with
  | 2 => (100, 3100)
  | 5 => (0, 7)
  | 8 => (0, 4095)
  | 14 => (0, 32767)
  | 15 => (0, 511)
  | 16 => (0, 32767)
  | 17 => (0, 1023)
  | 20 => (0, 32767)
  | 21 => (0, 32767)
  | 23 => (0, 32767)
  | 24 => (0, 32767)
  | 25 => (0, 32767)
  | 26 => (0, 400)
  | 27 => (1, 32767)
  | 28 => (1, 65535)
  | 29 => (0, 32767)
  | 30 => (0, 15)
  | 31 => (0, 15)
  | 32 => (0, 15)
  | 33 => (0, 500)
  | 34 => (0, 3)
  | _ => (0, 65535)

/-- What a data word written to a setup or tuning word stores, with the record as it stands and the cycle length of the moment
(R2): the words stored with their clamped values. A signed field takes the data word as two's complement (log 27). -/
def clampWrite (cycleLen : Nat) (r : Record) (w : Nat) (d : Word) : List (Nat × Int) :=
  let n := d.toNat
  let p := cycleLen / r.setup.periods
  match w with
  | 0 => [(0, powerOfTwo n)]
  | 1 => [(1, (min n (p - 1) : Nat))]
  | 3 => [(3, clampDeadline r.setup.window p n)]
  | 4 => [(4, if n > 2 then 0 else n)]
  | 6 => [(6, clamp (-32767) 32767 d.toInt)]
  | 7 => [(7, if n = 0 then 0 else 1)]
  | 18 => [(18, clamp (-32767) 0 d.toInt)]
  | 19 =>
    let l := min n 32767
    if l < r.tuning.iqFloor then [(19, l), (22, l)] else [(19, l)]
  | 22 => [(22, (min n r.tuning.iqLim : Nat))]
  | _ => [(w, (max (plainRange w).1 (min n (plainRange w).2) : Nat))]

/-- Stores a list of clamped words. -/
def Record.putAll (r : Record) (ps : List (Nat × Int)) : Record := ps.foldl (fun r p => r.put p.1 p.2) r

/-- The words stored by a write of consecutive data words from word `w` on, each clamped with the earlier ones already stored
(R1). -/
def clampWrites (cycleLen : Nat) : Record → Nat → List Word → List (Nat × Int)
  | _, _, [] => []
  | r, w, d :: ds =>
    let ps := clampWrite cycleLen r w d
    ps ++ clampWrites cycleLen (r.putAll ps) (w + 1) ds

/-- Word classes (1.1): setup words 0 to 9, tuning words 10 to 34, status words 35 to 67. -/
def isSetup (w : Nat) : Bool := decide (w < 10)
def isStatus (w : Nat) : Bool := decide (35 ≤ w)

/-- Applies a permitted write (R1): its words are stored, and id_fw, read through the check bits and taken as 0 if uncorrectable (log
17), is raised to a new id_fw_min above it (R49). -/
def State.applyWrite (s : State) (c : Chan) (ps : List (Nat × Int)) : State :=
  let r := (s.rcd c).putAll ps
  if ps.any (fun p => p.1 == 18) = true then
    let q := s.check (chanLoc c 49)
    if orZero q.1 r.status.idFw < r.tuning.idFwMin then
      q.2.storeRecord c (ps.map Prod.fst ++ [49]) fun _ => { r with status := { r.status with idFw := r.tuning.idFwMin } }
    else q.2.storeRecord c (ps.map Prod.fst) fun _ => r
  else s.storeRecord c (ps.map Prod.fst) fun _ => r

end Sys2Proof.Machine
end

