-- ==== Sys2Proof/Machine/ShareOps.lean ====
section
/-! DEFINITION. The power share (05): the budget event, its allocation rank by rank, and the SHARE table. -/

namespace Sys2Proof.Machine

open Sys2Proof

/-- What a budget event reads of a channel (R99, R108): whether it takes part, its rank, and its power in budget units. -/
structure BudgetLine where
  part : Bool
  rank : Nat
  power : Int
  deriving DecidableEq, Repr

/-- The channel power P_k (R99). -/
def channelPower (p : Int) (weight : Nat) : Int := p * weight / 4096

/-- The reading of one channel (R99, R100); an uncorrectable word counts it in rank 3 with no demand (R108). -/
def State.budgetLine (s : State) (c : Chan) : BudgetLine × State :=
  let r := s.checkAll ([9, 34, 35, 63].map (chanLoc c))
  let x := s.rcd c
  (if r.1 then
    { part := x.status.state.gatesOn, rank := x.tuning.rank, power := channelPower x.status.fb.p x.setup.weight }
   else { part := true, rank := 3, power := 0 }, r.2)

/-- The reading of the channels in increasing order. -/
def State.budgetLines (s : State) : List Chan → List BudgetLine × State
  | [] => ([], s)
  | c :: cs =>
    let r := s.budgetLine c
    let q := r.2.budgetLines cs
    (r.1 :: q.1, q.2)

/-- The demand of a line (R99). -/
def BudgetLine.demand (l : BudgetLine) : Nat := if l.part then l.power.toNat else 0

/-- The regeneration of a line (R99). -/
def BudgetLine.regen (l : BudgetLine) : Nat := if l.part then (-l.power).toNat else 0

/-- The demand D_r of a rank (R99). -/
def rankDemand (ls : List BudgetLine) (r : Nat) : Nat := ((ls.filter fun l => l.rank == r).map BudgetLine.demand).sum

/-- The allocation while it runs (R101): what is left, the rank cut, and the factors of the ranks done, lowest rank first. -/
structure Allocation where
  left : Nat
  cut : Option Nat
  factors : List Nat
  deriving DecidableEq, Repr

/-- One rank allocated whole (R101). -/
def Allocation.rank (a : Allocation) (r d : Nat) : Allocation :=
  match a.cut with
  | some _ => { a with factors := a.factors ++ [0] }
  | none =>
    if d ≤ a.left then { left := a.left - d, cut := none, factors := a.factors ++ [Config.factorOne] }
    else { left := 0, cut := some r, factors := a.factors ++ [a.left * Config.factorOne / d] }

/-- The allocation of the available power over ranks 0 to 3 (R101). -/
def allocate (avail : Nat) (demand : Nat → Nat) : Allocation :=
  [0, 1, 2, 3].foldl (fun a r => a.rank r (demand r)) { left := avail, cut := none, factors := [] }

/-- The factor a line's channel receives (R101, R102). -/
def Allocation.factor (a : Allocation) (l : BudgetLine) : Nat :=
  if l.part then a.factors.getD l.rank Config.factorOne else Config.factorOne

/-- Writes the grant factors of all channels in one store, the channels in increasing order (R102, R169). -/
def State.storeGrants (s : State) (f : List Nat) : State :=
  { s with
    channels := Vector.ofFn fun c : Chan =>
      { s.channels[c] with record := { s.channels[c].record with
          status := { s.channels[c].record.status with grant := f.getD c.val Config.factorOne } } }
    svc := s.svc.store (chans.map fun c => chanLoc c 50) }

/-- The figures of a budget event (R102, R103, R107). -/
def Share.figures (sh : Share) (a : Allocation) (regen : Nat) (demand : Nat → Nat) : Share :=
  { sh with
    restricted := a.cut.isSome
    remaining := a.left
    regen := regen
    cutRank := a.cut.getD 4
    demands := Vector.ofFn fun i => demand i.val
    budgets := bump sh.budgets
    restrictedBudgets := if a.cut.isSome then bump sh.restrictedBudgets else sh.restrictedBudgets }

/-- The figures with the share disabled (R102). -/
def Share.idle (sh : Share) : Share :=
  { sh with restricted := false, remaining := 0, regen := 0, cutRank := 4, demands := Vector.replicate 4 0 }

/-- The budget event (R99 to R103, R108, R110). -/
def State.budget (s : State) : State :=
  if s.share.enable then
    let r := s.budgetLines chans
    let regen := if s.share.credit then (r.1.map BudgetLine.regen).sum else 0
    let a := allocate (s.share.supply + regen) (rankDemand r.1)
    let s1 := r.2.storeGrants (r.1.map a.factor)
    let s2 := { s1 with share := s.share.figures a regen (rankDemand r.1) }
    match a.cut with
    | some k => if s.share.restricted then s2 else s2.raise .budgetLimit (detail k (a.factors.getD k 0))
    | none => s2
  else { s.storeGrants [] with share := s.share.idle }

/-- The value of a word of the SHARE table (5.1). -/
def Share.word (sh : Share) (w : Nat) : Int :=
  match w with
  | 0 => bit sh.enable 0
  | 1 => sh.supply
  | 2 => bit sh.credit 0
  | 3 => bit sh.restricted 0
  | 4 => sh.remaining
  | 5 => sh.regen
  | 6 => sh.cutRank
  | 7 => sh.demands[0]
  | 8 => sh.demands[1]
  | 9 => sh.demands[2]
  | _ => sh.demands[3]

/-- A written word as stored (R96). -/
def Share.put (sh : Share) (w : Nat) (d : Word) : Share :=
  match w with
  | 0 => { sh with enable := decide (d ≠ 0) }
  | 1 => { sh with supply := min d.toNat 1048575 }
  | 2 => { sh with credit := decide (d ≠ 0) }
  | _ => sh

/-- A ring reset or a node reset (R109). -/
def Share.softReset (sh : Share) : Share := { sh.idle with budgets := 0, restrictedBudgets := 0 }

end Sys2Proof.Machine
end

