-- ==== Sys2Proof/Machine/TimebaseOps.lean ====
section
/-! DEFINITION. The timebase (03, 3.1 to 3.3): marks, the miss test at a boundary, and writes of its table. -/

namespace Sys2Proof.Machine

open Sys2Proof

/-! ## Marks (R60 to R65) -/

/-- The target instant of a mark (R60). -/
def Timebase.target (b : Timebase) (stamp : Nat) : Int :=
  (stamp : Int) - b.ringDelay / 10 - Config.ingressTicks + b.offset

/-- The phase error of a target against the predicted boundaries, in −T/2 + 1 to T/2 (R60). -/
def Timebase.phaseError (b : Timebase) (target : Int) : Int :=
  let r := (target - b.nextBoundary) % b.lenInUse
  if r > b.lenInUse / 2 then r - b.lenInUse else r

/-- The jump of a mark in FREE (R61): the first instant of the target's pattern later than now. -/
def Timebase.jumpTo (b : Timebase) (target : Int) (now : Nat) : Nat :=
  ((now : Int) - ((now : Int) - target) % b.lenInUse + b.lenInUse).toNat

/-- The slewed next boundary (R62). -/
def Timebase.slewTo (b : Timebase) (e : Int) (now : Nat) : Nat :=
  (max (now : Int) ((b.nextBoundary : Int) + clampSym b.slew e)).toNat

/-- A mark is counted toward lock in ACQUIRE and against it in LOCKED (R63); the answer says that lock was lost. -/
def Timebase.countMark (b : Timebase) (e : Int) : Timebase × Bool :=
  let inside := decide (e.natAbs ≤ b.lockWindow)
  match b.state with
  | .acquire =>
    if inside then
      if b.inRun + 1 = Config.lockRun then ({ b with state := .locked, inRun := 0, outRun := 0 }, false)
      else ({ b with inRun := b.inRun + 1 }, false)
    else ({ b with inRun := 0 }, false)
  | .locked =>
    if inside then ({ b with outRun := 0 }, false)
    else if b.outRun + 1 = Config.loseRun then ({ b with state := .acquire, inRun := 0, outRun := 0 }, true)
    else ({ b with outRun := b.outRun + 1 }, false)
  | _ => (b, false)

/-- What a mark does to the timebase (R60 to R65); the answer says that lock was lost, with the phase error. -/
def Timebase.mark (b : Timebase) (stamp now : Nat) : Timebase × Bool × Int :=
  let target := b.target stamp
  let e := b.phaseError target
  let b1 := { b with lastError := e, marksTaken := bump b.marksTaken, markNoted := true, missRun := 0 }
  match b.state with
  | .free =>
    ({ b1 with state := .acquire, inRun := 0, outRun := 0, nextBoundary := b.jumpTo target now }, false, e)
  | .holdover =>
    let r := { b1 with state := .acquire, holdCount := 0, nextBoundary := b.slewTo e now }.countMark e
    (r.1, r.2, e)
  | _ =>
    let r := { b1 with nextBoundary := b.slewTo e now }.countMark e
    (r.1, r.2, e)

/-- The period events of the cycle in progress that a jump drops: those at or after the rescheduled boundary (R61). -/
def Hidden.dropEvents (h : Hidden) (boundary next : Nat) : Hidden :=
  { h with events := h.events.filter fun e => decide (¬ (e.boundary = boundary ∧ next ≤ e.time)) }

/-- The timebase takes a cycle mark (R60 to R65): SYNC_LOST with the phase error when lock is lost, dropped events at a jump. -/
def State.takeMark (s : State) (stamp : Nat) : State :=
  let r := s.tb.mark stamp s.now
  let s1 := { s with tb := r.1 }
  let s2 := if s.tb.state = .free then
      { s1 with channels := s1.channels.map fun x =>
          { x with hid := x.hid.dropEvents s.tb.lastBoundary r.1.nextBoundary } }
    else s1
  if r.2.1 then s2.raise .syncLost (detail r.2.2 0) else s2

/-! ## The timebase at a boundary (R59, R61, R64, R65) -/

/-- The boundary falls and the next one is scheduled; a new cycle length takes effect (R59, R61). -/
def Timebase.fall (b : Timebase) : Timebase :=
  { b with
    lastBoundary := b.nextBoundary
    nextBoundary := b.nextBoundary + b.cycleLen
    lenInUse := b.cycleLen }

/-- The miss test of ACQUIRE and LOCKED (R64) and the holdover count (R65); the answer says that HOLDOVER was entered. -/
def Timebase.missTest (b : Timebase) : Timebase × Bool :=
  match b.state with
  | .free => ({ b with markNoted := false }, false)
  | .holdover =>
    let n := min (b.holdCount + 1) 65535
    if n > b.holdLimit ∧ b.holdCount < 65535 then
      ({ b with state := .free, holdCount := 0, inRun := 0, outRun := 0, missRun := 0, markNoted := false }, false)
    else ({ b with holdCount := n, markNoted := false }, false)
  | st =>
    if b.markNoted then ({ b with markNoted := false }, false)
    else
      let b1 := { b with
        missRun := b.missRun + 1
        marksMissed := bump b.marksMissed
        inRun := if st = .acquire then 0 else b.inRun
        markNoted := false }
      if b1.missRun = Config.missRun then
        ({ b1 with state := .holdover, holdCount := 0, syncFault := true }, true)
      else (b1, false)

/-- The timebase's own work at a boundary (R64, R65, R68). -/
def State.boundaryTest (s : State) : State :=
  let r := s.tb.missTest
  let s1 := { s with tb := r.1 }
  if r.2 then s1.raise .syncHoldover (detail s.tb.state.code 0) else s1

/-! ## The TIMEBASE table (3.1, R59) -/

/-- The value of a word of the TIMEBASE table. -/
def Timebase.word (b : Timebase) (w : Nat) : Int :=
  match w with
  | 0 => b.state.code
  | 1 => b.cycleLen
  | 2 => b.offset
  | 3 => b.ringDelay
  | 4 => b.slew
  | 5 => b.lockWindow
  | 6 => b.holdLimit
  | 7 => bit b.syncFault 0
  | 8 => b.lastError
  | 9 => b.inRun
  | 10 => b.outRun
  | 11 => b.missRun
  | _ => b.holdCount

/-- A cycle length as written (R59). -/
def cycleLenOf (n : Nat) : Nat :=
  if n < 18750 then 12500 else if n < 37500 then 25000 else if n < 75000 then 50000 else 100000

/-- A written word as stored (R59). -/
def Timebase.put (b : Timebase) (w : Nat) (d : Word) : Timebase :=
  let n := d.toNat
  match w with
  | 1 => { b with cycleLen := cycleLenOf n, offset := min b.offset (cycleLenOf n - 1) }
  | 2 => { b with offset := min n (b.cycleLen - 1) }
  | 3 => { b with ringDelay := min n 65535 }
  | 4 => { b with slew := min n 255 }
  | 5 => { b with lockWindow := max 1 (min n 255) }
  | 6 => { b with holdLimit := min n 65535 }
  | _ => b

/-- SYNC_CLEAR (R66). -/
def Timebase.syncClear (b : Timebase) : Timebase := if b.state = .locked then { b with syncFault := false } else b

/-- A ring reset (R67). R67 does not name the note that a mark has been taken in the cycle (R64): that it is cleared is the model's choice
(log 49). -/
def Timebase.ringReset (b : Timebase) : Timebase :=
  { b with
    state := .free
    syncFault := false
    lastError := 0
    inRun := 0
    outRun := 0
    missRun := 0
    holdCount := 0
    markNoted := false
    marksTaken := 0
    marksMissed := 0 }

/-- A node reset (R67): only the two counters change. That the note of R64, which R67 does not name, is kept too is the model's choice
(log 49). -/
def Timebase.nodeReset (b : Timebase) : Timebase := { b with marksTaken := 0, marksMissed := 0 }

end Sys2Proof.Machine
end

