-- ==== Sys2Proof/Machine/Boundary.lean ====
section
/-! DEFINITION. The cycle boundary (03, 3.4): the setpoint hand-off (01, 1.7), the period events of the new cycle, keep-alives, the
budget event and the timebase's miss test. -/

namespace Sys2Proof.Machine

open Sys2Proof

/-- The words a hand-off reads (R166). -/
def handoffLocs (c : Chan) : List Loc := [41, 42, 43, 44, 45, 46, 51].map (chanLoc c)

/-- The endpoints and feed-forward values after a hand-off (R26); uncorrectable words are taken as 0 (R166). -/
def Status.handoff (x : Status) (ok : List Bool) (h : Hidden) : Status :=
  let iqCur := orZero (ok.getD 1 true) x.iqCur
  let idCur := orZero (ok.getD 3 true) x.idCur
  if h.fresh then
    { x with
      iqPrev := iqCur
      iqCur := h.iqIn
      idPrev := idCur
      idCur := h.idIn
      vdFf := h.vdIn
      vqFf := h.vqIn
      missRun := 0 }
  else
    { x with
      iqPrev := iqCur
      iqCur := iqCur
      idPrev := idCur
      idCur := idCur
      vdFf := orZero (ok.getD 4 true) x.vdFf
      vqFf := orZero (ok.getD 5 true) x.vqFf }

/-- A missed setpoint of a RUNNING channel (R26): SETPOINT_MISS at the first, COMM_LOSS above the limit (R20), which is read through the
check bits, an uncorrectable one as 0 (R166). -/
def State.countMiss (s : State) (c : Chan) (n : Nat) : State :=
  let s1 := if n = 1 then s.raise .setpointMiss (detail c.val 0) else s
  let r := s1.check (chanLoc c 30)
  if (n : Int) > orZero r.1 (s.rcd c).tuning.missLimit then r.2.rampFault c .commLoss .running else r.2

/-- A channel hands over its setpoints (R26): without the fresh mark its state is read too, and what the hand-off keeps is stored afresh
(log 10). -/
def State.handoff (s : State) (c : Chan) : State :=
  let h := s.hid c
  let q := if h.fresh then (.off, s) else s.readState c
  let r := q.2.checkEach (handoffLocs c)
  let n := bumpRun (orZero (r.1.getD 6 true) (s.status c).missRun).toNat
  if h.fresh then
    (r.2.storeStatus c [41, 42, 43, 44, 45, 46, 51] fun x => x.handoff r.1 h).onHid c fun h => { h with fresh := false }
  else if q.1 = .running then
    (r.2.storeStatus c [41, 42, 43, 44, 45, 46, 51] fun x => { x.handoff r.1 h with missRun := n }).countMiss c n
  else r.2.storeStatus c [41, 42, 43, 44, 45, 46] fun x => x.handoff r.1 h

/-- A channel that is not OFF generates the period events of the new cycle (R69); the link of an OFF channel sends a keep-alive
(R80). Its state is read through the check bits, and an uncorrectable one counts as FAULTED, so not as OFF (log 11). -/
def State.newCycle (s : State) (c : Chan) : State :=
  let r := s.readState c
  if r.1 = .off then r.2.handRecord c .keepAlive
  else r.2.onHid c fun h =>
    { h with events := h.events ++
        cycleEvents s.tb.lastBoundary h.effOffset h.effP h.effN }

/-- The scheduled cycle boundary falls and is handed to the channels, the links, the power share and the timebase (R68). -/
def State.boundary (s : State) (order : List Chan) : State :=
  let s1 := { s.advance s.tb.nextBoundary with tb := s.tb.fall }
  let s2 := (channelOrder order).foldl State.handoff s1
  let s3 := chans.foldl State.newCycle s2
  s3.budget.boundaryTest

/-- CYCLE_BOUNDARY (R68). -/
def execCycleBoundary (order : List Chan) (s : State) : Host.Outcome State Fault Refusal := .next (s.boundary order)

/-- HOLDOVER_TIMEOUT (R65): the boundary whose rise takes the holdover cycle count above the limit (log 4). -/
def execHoldoverTimeout (order : List Chan) (s : State) : Host.Outcome State Fault Refusal :=
  if s.tb.state = .holdover ∧ s.tb.holdCount < 65535 ∧ s.tb.holdCount + 1 > s.tb.holdLimit then .next (s.boundary order)
  else .next s

end Sys2Proof.Machine
end

