-- ==== Sys2Proof/Machine/PassThrough.lean ====
section
/-! DEFINITION. The end of a pass-through: a stage's reply, the timeout, and the final reply handed to the responder (R91, R92, R150). -/

namespace Sys2Proof.Machine

open Sys2Proof

/-- A reply of this node to a request (R149). -/
def State.replyTo (s : State) (r : ReqArea) (st : ReplyStatus) (data : List Word) (count : Nat) : Reply :=
  { addr := s.ring.address, tag := r.tag, status := st, count := count, data := data }

/-- The request area as the repeat memory keeps it: less the target address (R152). -/
def memoryKey (r : ReqArea) : ReqArea := { r with target := 0 }

/-- The final reply of the pass-through in flight is handed over (R150, R152): it becomes the ready reply, and the repeat memory
keeps it. Its count is that of its data words, so 0 for an accepted WRITE, for DENIED and for TIMEOUT, where no rule gives one: the model's
(log 51). -/
def State.handFinal (s : State) (st : ReplyStatus) (data : List Word) : State :=
  match s.resp.flight with
  | none => s
  | some r =>
    let rep := s.replyTo r st data data.length
    { s with resp := { s.resp with
        state := .holding
        flight := none
        ready := some rep
        memory := some (memoryKey r, rep) } }

/-- The data of an accepted reply: the register for a READ, nothing for a WRITE (R91). -/
def passData (p : PassThrough) (rp : PassReply) : List Word :=
  if rp.accepted ∧ ¬ p.req.write then [BitVec.setWidth 32 rp.data] else []

/-- A pass-through reply in a report taken with good parity (R91). -/
def State.passReply (s : State) (c : Chan) (rp : PassReply) : State :=
  let stray (x : State) : State := x.onLinkCounts c fun k => { k with stray := bump k.stray }
  match (s.link c).pass with
  | some p =>
    if p.started ∧ p.req.reg = rp.reg then
      (s.onLink c fun l => { l with pass := none }).handFinal (if rp.accepted then .ok else .denied) (passData p rp)
    else stray s
  | none => stray s

/-- PASS_THROUGH_TIMEOUT (R92): 2 ms after the access was taken, it not having ended. -/
def execPassThroughTimeout (c : Chan) (s : State) : Host.Outcome State Fault Refusal :=
  match (s.link c).pass with
  | none => .next s
  | some p =>
    .next (((s.advance p.timeout).onLink c fun l =>
      { l with pass := none, counts := { l.counts with timeouts := bump l.counts.timeouts } }).handFinal .timeout [])

end Sys2Proof.Machine
end

