-- ==== Sys2Proof/Machine/Recorder.lean ====
section
/-! DEFINITION. The trace recorder (11): captures, level triggers, arming, stopping and fetching. -/

namespace Sys2Proof.Machine

open Sys2Proof

/-- The record word of a lane quantity (11.1); none for OFF. -/
def laneWord (q : Fin 16) : Option Nat :=
  match q.val with
  | 0 => none
  | 14 => some 50
  | 15 => some 49
  | n => some (53 + n)

/-- The quantities u, θ, Ca, Cb, Cc and f are unsigned (11.1). -/
def laneUnsigned (q : Fin 16) : Bool := q.val == 7 || q.val == 8 || q.val == 11 || q.val == 12 || q.val == 13 || q.val == 14

/-- The record words of the lanes (R173). -/
def laneLocs (t : Trace) : List Loc :=
  (List.finRange 4).filterMap fun i => (laneWord t.laneQty[i]).map (chanLoc t.laneChan[i])

/-- The 16-bit value of a lane (R173): 0 for OFF and for an uncorrectable word. -/
def State.laneValue (s : State) (bad : List Loc) (c : Chan) (q : Fin 16) : BitVec 16 :=
  match laneWord q with
  | none => 0
  | some w => if chanLoc c w ∈ bad then 0 else BitVec.ofInt 16 ((s.rcd c).word w)

/-- A lane value as its quantity reads it (11.2). -/
def laneRead (q : Fin 16) (v : BitVec 16) : Int := if laneUnsigned q then v.toNat else v.toInt

/-- The words of an entry (11.2). -/
def traceEntry (sample : Nat) (l0 l1 l2 l3 : BitVec 16) : TraceEntry :=
  { w0 := toWord (sample * 65536 : Nat), w1 := l0 ++ l1, w2 := l2 ++ l3 }

/-- A level trigger (R175): the previous value and the capture's own lie on the two sides of the level. -/
def Trace.levelTrigger (t : Trace) (v : Int) : Bool :=
  match t.source, t.prevLane with
  | .rising, some p => decide (p < t.level) && decide (t.level ≤ v)
  | .falling, some p => decide (t.level ≤ p) && decide (v < t.level)
  | _, _ => false

/-- Appends an entry: the next place and the sample count move on (R173). -/
def Trace.append (t : Trace) (e : TraceEntry) (v : Int) : Trace :=
  { t with
    entries := t.entries ++ [e]
    next := (t.next + 1) % Config.tracePlaces
    sample := (t.sample + 1) % 65536
    prevLane := some v }

/-- A capture placed (R173 to R176); the answer says whether it completed the post-trigger count. -/
def Trace.place (t : Trace) (e : TraceEntry) (v : Int) : Trace × Bool :=
  let a := t.append e v
  let postEntry (n : Nat) (x : Trace) : Trace × Bool :=
    if n = t.post then ({ x with state := .done, postDone := n }, true) else ({ x with state := .post, postDone := n }, false)
  match t.state with
  | .post => postEntry (t.postDone + 1) a
  | .filling =>
    if t.levelTrigger v then postEntry 1 { a with trigSample := t.sample }
    else (if a.entries.length = t.pre then { a with state := .armed } else a, false)
  | .armed =>
    if t.levelTrigger v then postEntry 1 { a with trigSample := t.sample }
    else ({ a with entries := if a.entries.length > t.pre then a.entries.drop 1 else a.entries }, false)
  | _ => (t, false)

/-- The recorder takes captures in FILLING, ARMED and POST (R173). -/
def TraceState.captures : TraceState → Bool
  | .filling => true
  | .armed => true
  | .post => true
  | _ => false

/-- One capture (R173): the words of the four lanes read in one read, the entry stored into the next place, and TRACE_DONE at the
last (R176). An event trigger that such a reading raises is taken before the capture (log 8). -/
def State.capture (s : State) : State :=
  let t := s.svc.trace
  let r := s.badWords (laneLocs t)
  let lane (i : Fin 4) : BitVec 16 := s.laneValue r.1 t.laneChan[i] t.laneQty[i]
  let e := traceEntry t.sample (lane 0) (lane 1) (lane 2) (lane 3)
  let v := r.2.svc.store [traceLoc t.next 0, traceLoc t.next 1, traceLoc t.next 2]
  let q := v.trace.place e (laneRead t.laneQty[0] (lane 0))
  let s1 := { r.2 with svc := { v with trace := q.1 } }
  if q.2 then s1.raise .traceDone (detail q.1.entries.length t.sample) else s1

/-- The completion of a job tells the recorder when its channel is the reference channel (R73, R173). -/
def State.captureFor (s : State) (c : Chan) : State :=
  if s.svc.trace.refChan = c ∧ s.svc.trace.state.captures then s.capture else s

/-- TRACE_ARM taken in IDLE or DONE (R174). -/
def Trace.arm (t : Trace) : Trace :=
  { t with
    state := if t.pre = 0 then .armed else .filling
    entries := []
    next := 0
    sample := 0
    trigSample := 0
    prevLane := none
    postDone := 0 }

/-- A command trigger (R175). -/
def Trace.trigger (t : Trace) : Trace := { t with state := .post, trigSample := t.sample, postDone := 0 }

/-- A reset (R178). The previous lane 0 value and the post-trigger entries counted are not in R178: none and 0 are the model's (log 26). -/
def Trace.softReset (t : Trace) : Trace :=
  { t with state := .idle, entries := [], next := 0, sample := 0, trigSample := 0, prevLane := none, postDone := 0 }

/-- The place of the oldest entry held. -/
def Trace.oldest (t : Trace) : Nat := (t.next + Config.tracePlaces - t.entries.length) % Config.tracePlaces

/-- The words of a place (11.2). -/
def placeLocs (place : Nat) : List Loc := [traceLoc place 0, traceLoc place 1, traceLoc place 2]

/-- The three words of a fetched entry (R177): bit 0 of the first set when all were readable; an uncorrectable word is 0. -/
def fetchWords (bad : List Loc) (place : Nat) (e : TraceEntry) : List Word :=
  let w (i : Nat) (x : Word) : Word := if traceLoc place i ∈ bad then 0 else x
  [w 0 e.w0 ||| (if (placeLocs place).any (fun l => decide (l ∈ bad)) then 0 else 1), w 1 e.w1, w 2 e.w2]

/-- FETCH in DONE (R177): the data words of the reply, and the state without the entries returned. The words of the two oldest
entries are one read, by place and word (R165). -/
def State.fetchData (s : State) : List Word × State :=
  let t := s.svc.trace
  let out := (t.entries.take 2).zipIdx.map fun p => ((t.oldest + p.2) % Config.tracePlaces, p.1)
  let r := s.badWords (out.flatMap fun p => placeLocs p.1)
  (toWord (out.length * 65536 + (t.entries.length - out.length) : Nat) :: out.flatMap fun p => fetchWords r.1 p.1 p.2,
   { r.2 with svc := { r.2.svc with trace := { r.2.svc.trace with entries := r.2.svc.trace.entries.drop 2 } } })

end Sys2Proof.Machine
end

