-- ==== Sys2Proof/Machine/Resets.lean ====
section
/-! DEFINITION. The three kinds of reset over the whole block (R3, R67, R75, R93, R95, R109, R124, R144, R155, R164, R171, R178) and
CLEAR_COUNTERS. -/

namespace Sys2Proof.Machine

open Sys2Proof

/-- A channel after a ring reset or a node reset (R3): setup and tuning kept, every status word and hidden item at its power-on
value, held writes dropped; the counters of R76 and R143 at 0. -/
def Channel.softReset (x : Channel) : Channel := { record := { x.record with status := {} } }

/-- A link after a ring reset or a node reset (R95): a pass-through, waiting or in flight, is dropped without a reply (R93; its order
beside a gate-off record, log 53). -/
def Link.softReset (l : Link) : Link :=
  { l with window := none, waiver := false, report := none, note := false, pass := none, counts := {} }

/-- The walker after a ring reset or a node reset (R144). -/
def Walker.softReset (w : Walker) : Walker :=
  { w with
    state := .disabled
    lastEnd := .none
    lastCount := 0
    pos := none
    executed := 0
    cur := 0
    takes := {}
    counts := {} }

/-- The injection cleared by a reset before any store it makes (R171). -/
def Integrity.softReset (g : Integrity) : Integrity := { g with kind := none, parity := Vector.replicate 8 false }

/-- The pending set emptied by a reset (R164). -/
def Events.softReset (e : Events) : Events := { e with pending := Vector.replicate 16 none }

/-- The status words of all channels, which a reset stores (R171). -/
def resetLocs : List Loc := chans.flatMap fun c => (List.range 33).map fun i => chanLoc c (35 + i)

/-- The services after a ring reset or a node reset, the reset cause apart (R164, R171, R178). -/
def Services.softReset (v : Services) : Services :=
  ({ events := v.events.softReset, integ := v.integ.softReset, trace := v.trace.softReset } : Services).store resetLocs

/-- The state words of some channels read through the check bits (R165): the channels that may have their gates on, in RUNNING or STOPPING
or with a state word that could not be read (log 11). -/
def State.readGates (s : State) : List Chan → List Chan × State
  | [] => ([], s)
  | c :: cs =>
    let r := s.check (chanLoc c 35)
    let q := r.2.readGates cs
    (if ¬ r.1 ∨ (s.status c).state.gatesOn then c :: q.1 else q.1, q.2)

/-- What a ring reset and a node reset do alike; a channel that was RUNNING or STOPPING sends a gate-off record (R3). The state words are
read before the reset stores and empties anything (log 11). R90 and R93 give no order between dropping a pass-through that still waits and
starting the gate-off record of the reset. DESIGN CHOICE (unsafe, log 53): it is dropped first, so that record carries no request and takes
96 ticks. -/
def State.softReset (s : State) : State :=
  let g := s.readGates chans
  let s1 := { s with
    channels := s.channels.map Channel.softReset
    links := s.links.map Link.softReset
    cu := {}
    share := s.share.softReset
    walker := s.walker.softReset
    svc := g.2.svc.softReset
    ring := { s.ring with counts := {} } }
  g.1.foldl State.gateOff s1

/-- A ring reset (R123): every block, the repeat memory emptied, RING_RESET added. -/
def State.ringReset (s : State) : State :=
  let x := s.softReset
  { x with
    tb := x.tb.ringReset
    resp := {}
    svc := { x.svc with events := { x.svc.events with causeRing := true } } }

/-- The responder after a node reset (R155): the repeat memory is kept. -/
def Responder.nodeReset (r : Responder) : Responder := { memory := r.memory }

/-- A node reset (R153): the timebase runs on, the repeat memory is kept, NODE_RESET added. -/
def State.nodeReset (s : State) : State :=
  let x := s.softReset
  { x with
    tb := x.tb.nodeReset
    resp := x.resp.nodeReset
    svc := { x.svc with events := { x.svc.events with causeNode := true } } }

/-- CLEAR_COUNTERS (R76, R94, R107, R125, R143, R154): every counter of the COUNTERS table at 0. -/
def State.clearCounters (s : State) : State :=
  { s with
    channels := s.channels.map fun x => { x with counts := {} }
    links := s.links.map fun l => { l with counts := {} }
    tb := { s.tb with marksTaken := 0, marksMissed := 0 }
    share := { s.share with budgets := 0, restrictedBudgets := 0 }
    ring := { s.ring with counts := {} }
    walker := { s.walker with counts := {} }
    resp := { s.resp with counts := {} } }

/-- POWER_ON (R3, R67, R95, R109, R124, R144, R155, R164, R171, R178): every block at its defaults; the commands that wait go on
waiting (log 32), and the count that picks free values runs on (log 48). -/
def execPowerOn (s : State) : Host.Outcome State Fault Refusal :=
  .next { State.reset with pending := s.pending, lostArms := s.lostArms }

end Sys2Proof.Machine
end

