-- ==== Sys2Proof/Machine/Crc.lean ====
section
/-! DEFINITION. The two checks of a frame (06, 6.4): words in order, each most significant bit first. -/

namespace Sys2Proof.Machine

open Sys2Proof

/-- One bit of a CRC with the given generator, most significant bit first. -/
def crcBit {n : Nat} (poly : BitVec n) (c : BitVec n) (b : Bool) : BitVec n :=
  if c.msb != b then (c <<< 1) ^^^ poly else c <<< 1

/-- The top `k` bits not yet taken of a word, most significant first: bit `k - 1` down to bit 0. -/
def crcWordBits {n : Nat} (poly : BitVec n) (w : Word) : Nat → BitVec n → BitVec n
  | 0, c => c
  | k + 1, c => crcWordBits poly w k (crcBit poly c (w.getLsbD k))

/-- A CRC over words. -/
def crcWords {n : Nat} (poly : BitVec n) (init : BitVec n) (ws : List Word) : BitVec n :=
  ws.foldl (fun c w => crcWordBits poly w 32 c) init

/-- The header check over H0 to H11: 16 bits, generator 1021, initial value all ones, used as computed (6.4). -/
def headerCrc (ws : List Word) : BitVec 16 := crcWords (0x1021 : BitVec 16) 0xFFFF ws

/-- The frame check over H0 to Q8: 32 bits, generator 04C11DB7, initial value all ones, inverted (6.4). -/
def frameCrc (ws : List Word) : Word := ~~~ crcWords (0x04C11DB7 : BitVec 32) 0xFFFFFFFF ws

end Sys2Proof.Machine
end

