-- ==== Sys2Proof/Machine/Operands.lean ====
section
/-! DEFINITION. The fields of frame words and of request areas (6.4, 8.1), and the request area each exchange row
stands for. -/

namespace Sys2Proof.Machine

open Sys2Proof

/-! ## Fields of the header (6.4) -/

/-- Kind of a frame, H0 bits 31 to 30. -/
def hdrKind (h0 : Word) : Nat := field h0 31 30

/-- Payload length n, H0 bits 29 to 21 plus 1. -/
def hdrPayload (h0 : Word) : Nat := field h0 29 21 + 1

/-- Cycle number, H0 bits 15 to 0. -/
def hdrCycle (h0 : Word) : Nat := field h0 15 0

/-- Position counter, H1 bits 31 to 24. -/
def hdrPosition (h1 : Word) : Nat := field h1 31 24

/-- The request area of a header (6.4). -/
def reqOf (h : Vector Word 13) : ReqArea :=
  { target := BitVec.ofNat 6 (field h[2] 31 26)
    tag := BitVec.ofNat 8 (field h[2] 25 18)
    kind := BitVec.ofNat 3 (field h[2] 17 15)
    table := BitVec.ofNat 4 (field h[2] 14 11)
    count := BitVec.ofNat 4 (field h[2] 10 7)
    index := BitVec.ofNat 8 (field h[3] 31 24)
    word := BitVec.ofNat 8 (field h[3] 23 16)
    data := Vector.ofFn fun i : Fin 8 => h[i.val + 4] }

/-- Responder address of a reply area, Q0 bits 31 to 26. -/
def replyAddress (q0 : Word) : Nat := field q0 31 26

/-! ## Codes of the request kinds and tables (8.1) -/

def kindRead : BitVec 3 := 0
def kindWrite : BitVec 3 := 1
def kindCommand : BitVec 3 := 2
def kindVector : BitVec 3 := 3
def kindFetch : BitVec 3 := 4

def tableNode : Nat := 0
def tableChannel : Nat := 1
def tableMap : Nat := 2
def tableMapControl : Nat := 3
def tableAlert : Nat := 4
def tableShare : Nat := 5
def tableTimebase : Nat := 6
def tableIntegrity : Nat := 7
def tableTrace : Nat := 8
def tableCounters : Nat := 9
def tableStage : Nat := 10

/-- The command codes (R153). -/
def cmdClearEvents : Nat := 0
def cmdClearCounters : Nat := 1
def cmdNodeReset : Nat := 2
def cmdMapEnable : Nat := 3
def cmdMapDisable : Nat := 4
def cmdSyncClear : Nat := 5
def cmdStageReset : Nat := 6
def cmdChannelRequest : Nat := 7
def cmdTraceArm : Nat := 8
def cmdTraceTrigger : Nat := 9
def cmdTraceStop : Nat := 10
def cmdIntegrityClear : Nat := 11

/-! ## The request area a row stands for (log 3) -/

/-- A READ of a node table. -/
def asRead (r : ReqArea) : ReqArea := { r with kind := kindRead }

/-- A WRITE. -/
def asWrite (r : ReqArea) : ReqArea := { r with kind := kindWrite }

/-- A READ of a given table. -/
def asReadOf (table : Nat) (r : ReqArea) : ReqArea := { r with kind := kindRead, table := BitVec.ofNat 4 table }

/-- A WRITE to a given table. -/
def asWriteTo (table : Nat) (r : ReqArea) : ReqArea := { r with kind := kindWrite, table := BitVec.ofNat 4 table }

/-- A COMMAND of a given code. -/
def asCommand (code : Nat) (r : ReqArea) : ReqArea := { r with kind := kindCommand, word := BitVec.ofNat 8 code }

/-- The low four bits of data word 0 carry the code of a CHANNEL_REQUEST (R153). -/
def requestNibble (r : ReqArea) : BitVec 4 := BitVec.setWidth 4 r.data[0]

/-- Data word 0 with its low four bits replaced. -/
def withNibble (r : ReqArea) (code : BitVec 4) : ReqArea :=
  { r with data := r.data.set 0 ((r.data[0] &&& 0xFFFFFFF0) ||| BitVec.setWidth 32 code) }

/-- A CHANNEL_REQUEST of a given request code. -/
def asRequest (code : BitVec 4) (r : ReqArea) : ReqArea := withNibble (asCommand cmdChannelRequest r) code

/-- A CHANNEL_REQUEST that stores NONE: code 0 or 6 to 15 (R7); a code 1 to 5 is replaced by 0. -/
def asNoneRequest (r : ReqArea) : ReqArea :=
  if 1 ≤ (requestNibble r).toNat ∧ (requestNibble r).toNat ≤ 5 then asRequest 0 r else asCommand cmdChannelRequest r

/-- A VECTOR of a given index. -/
def asVector (index : Nat) (r : ReqArea) : ReqArea := { r with kind := kindVector, index := BitVec.ofNat 8 index }

/-- A FETCH. -/
def asFetch (r : ReqArea) : ReqArea := { r with kind := kindFetch }

end Sys2Proof.Machine
end

