-- ==== Sys2Proof/Machine/Walk.lean ====
section
/-! DEFINITION. The slot map and its walker (07): entries as written and read, the walk, commit and discard. -/

namespace Sys2Proof.Machine

open Sys2Proof

/-! ## Entries (R126, 7.8) -/

/-- The offset code that stands for CYCLE_NUMBER (7.8). -/
def cycleNumberCode : Nat := 1023

/-- An action code as stored (R126): 6 and 7 are END. -/
def actionOf (n : Nat) : Action :=
  match n with
  | 1 => .take
  | 2 => .put
  | 3 => .takeNode
  | 4 => .putNode
  | 5 => .skipUnless
  | _ => .endWalk

/-- The item codes an action defines (R126). -/
def Action.defines (a : Action) (item : Nat) : Bool :=
  match a with
  | .take => decide (item ≤ 4)
  | .put => decide (item ≤ 11)
  | .takeNode => decide (item = 0)
  | .putNode => decide (item ≤ 1)
  | .endWalk => true
  | .skipUnless => true

/-- Word 0 of an entry as stored (7.8). -/
def MapEntry.word0 (e : MapEntry) : Word :=
  toWord (e.action.code * 536870912 + e.offset * 524288 + e.chan.val * 65536 + e.item * 2048 + e.skip * 16 : Nat)

/-- Word 1 of an entry (7.8). -/
def MapEntry.word1 (e : MapEntry) : Word := e.mask ++ e.value

/-- Word 0 written by the rules of R126: action, item, offset, skip in this order. -/
def MapEntry.putWord0 (e : MapEntry) (d : Word) : MapEntry :=
  let a := actionOf (field d 31 29)
  let item := field d 15 11
  let a2 := if a.defines item then a else .endWalk
  let off := field d 28 19
  { e with
    action := a2
    item := if a.defines item then item else 0
    offset := if off = cycleNumberCode ∧ a2 = .skipUnless then cycleNumberCode else min off 511
    chan := Fin.ofNat 8 (field d 18 16)
    skip := max 1 (field d 10 4) }

/-- Word 1 written (R126). -/
def MapEntry.putWord1 (e : MapEntry) (d : Word) : MapEntry :=
  { e with mask := BitVec.ofNat 16 (field d 31 16), value := BitVec.ofNat 16 (field d 15 0) }

/-- A word of an entry written. -/
def MapEntry.put (e : MapEntry) (w : Nat) (d : Word) : MapEntry := if w = 0 then e.putWord0 d else e.putWord1 d

/-- A word of an entry read. -/
def MapEntry.word (e : MapEntry) (w : Nat) : Word := if w = 0 then e.word0 else e.word1

/-- The entry of an index. -/
def Walker.entry (w : Walker) (i : Nat) : MapEntry := w.map[Fin.ofNat 128 i]

/-! ## MAP CONTROL and the commands on the walker (R127, R128) -/

/-- The map may be edited (R127). -/
def WalkState.editable : WalkState → Bool
  | .disabled => true
  | .halted => true
  | _ => false

/-- The value of a word of the MAP CONTROL table (7.2). -/
def Walker.word (w : Walker) (i : Nat) : Int :=
  match i with
  | 0 => w.state.code
  | 1 => w.len
  | 2 => w.limit
  | 3 => w.lastEnd.code
  | _ => w.lastCount

/-- A written word of the MAP CONTROL table as stored (R127). -/
def Walker.put (w : Walker) (i : Nat) (d : Word) : Walker :=
  match i with
  | 1 => { w with len := min d.toNat 128 }
  | 2 => { w with limit := max 1 (min d.toNat 128) }
  | _ => w

/-- MAP_ENABLE (R128). -/
def Walker.enable (w : Walker) : Walker := if w.state.editable then { w with state := .ready } else w

/-- MAP_DISABLE (R128). -/
def Walker.disable (w : Walker) : Walker :=
  if w.state = .ready ∨ w.state = .halted then { w with state := .disabled } else w

/-! ## The take buffer (R132) -/

/-- A take staged in its channel's slots (R132). -/
def ChanTakes.stage (k : ChanTakes) (item : Nat) (w : Word) : ChanTakes :=
  let v := (BitVec.setWidth 16 w).toInt
  match item with
  | 0 => { k with iq := some v }
  | 1 => { k with id := some v }
  | 2 => { k with vd := some v }
  | 3 => { k with vq := some v }
  | _ => { k with request := some (BitVec.setWidth 4 w) }

/-- TAKE staged (R132). -/
def TakeBuffer.stage (b : TakeBuffer) (c : Chan) (item : Nat) (w : Word) : TakeBuffer :=
  { b with chan := b.chan.set c (b.chan[c].stage item w) }

/-- TAKE_NODE staged (R132). -/
def TakeBuffer.stageSupply (b : TakeBuffer) (w : Word) : TakeBuffer := { b with supply := some (field w 19 0) }

/-- The buffer holds no value. -/
def TakeBuffer.isEmpty (b : TakeBuffer) : Bool := decide (b = {})

/-! ## Put words (R133, R134, R142) -/

/-- The record words a put item carries (7.1, 7.8). -/
def putWords (item : Nat) : List Nat :=
  match item with
  | 0 => [55]
  | 1 => [54]
  | 2 => [57]
  | 3 => [56]
  | 4 => [58]
  | 5 => [59]
  | 6 => [60]
  | 7 => [61]
  | 8 => [62]
  | 9 => [63]
  | 10 => [50]
  | _ => [35, 36, 37, 67]

/-- The word of a channel put item (R134). -/
def putValue (r : Record) (item : Nat) : Word :=
  match putWords item with
  | [w] => toWord (r.word w)
  | _ => stateWord r.status

/-- PUT at a payload word (R133, R142): the words it needs are read through the check bits; if one is uncorrectable, the payload
word stays as it stood. -/
def State.putChan (s : State) (c : Chan) (item : Nat) (w : Word) : Word × State :=
  let r := s.checkAll ((putWords item).map (chanLoc c))
  (if r.1 then putValue (s.rcd c) item else w, r.2)

/-- PUT_NODE (R134). -/
def State.putNode (s : State) (item : Nat) : Word :=
  if item = 0 then nodeStatusWord s.tb s.walker.state s.svc.events else shareStatusWord s.share

/-! ## The end of a walk (R136, R137, R141) -/

/-- The walker leaves the walk with a last end. -/
def Walker.finish (w : Walker) (st : WalkState) (e : LastEnd) : Walker :=
  { w with state := st, lastEnd := e, lastCount := w.executed, pos := none, executed := 0, cur := 0 }

/-- A walk ends and the walker is READY again (R137). -/
def State.endWalk (s : State) (e : LastEnd) : State := { s with walker := s.walker.finish .ready e }

/-- Causes of MAP_LIMIT (9.1). -/
inductive LimitCause where
  | late
  | limit
  | overrun
  deriving DecidableEq, Repr

/-- The codes of the causes (9.1). -/
def LimitCause.code : LimitCause → Nat
  | .late => 0
  | .limit => 1
  | .overrun => 2

/-- MAP_LIMIT with its cause and an entry index. -/
def State.mapLimit (s : State) (k : LimitCause) (i : Nat) : State := s.raise .mapLimit (detail k.code i)

/-- Changes the counters of the walker. -/
def State.onWalkCounts (s : State) (f : WalkCounts → WalkCounts) : State :=
  { s with walker := { s.walker with counts := f s.walker.counts } }

/-- A walk ended with OVERRUN or WALK_LIMIT (R136). -/
def State.limitWalk (s : State) (e : LastEnd) (k : LimitCause) (i : Nat) : State :=
  ((s.endWalk e).onWalkCounts fun c => { c with limited := bump c.limited }).mapLimit k i

/-- The walk meets an uncorrectable entry (R141). -/
def State.haltWalk (s : State) (i : Nat) : State :=
  let w := s.walker.finish .halted .halt
  { s with walker := { w with takes := {}, counts := { w.counts with halts := bump w.counts.halts } } }.raise .mapHalt
    (detail i 0)

/-- A walk cut by its frame's end: an early end (R137), or a length fault's end symbol, which R137 does not name (log 50). -/
def State.cutWalk (s : State) : State := if s.walker.state = .walking then s.endWalk .cut else s

/-! ## The walk (R130, R131, R135, R136) -/

/-- The index after an entry left out: a SKIP_UNLESS takes its skip (R135). -/
def MapEntry.afterMissed (e : MapEntry) (i : Nat) : Nat := if e.action = .skipUnless then i + 1 + e.skip else i + 1

/-- The tests of R136 after an entry: whether the walk goes on at `next`, and the state. `skipped`: a SKIP_UNLESS that skipped. -/
def State.walkTest (s : State) (i next : Nat) (skipped : Bool) : Bool × State :=
  if skipped ∧ next > s.walker.len then (false, s.limitWalk .overrun .overrun i)
  else if next ≥ s.walker.len then (false, s.endWalk .length)
  else if s.walker.executed ≥ s.walker.limit then (false, s.limitWalk .walkLimit .limit next)
  else (true, { s with walker := { s.walker with cur := next } })

/-- An entry counted as executed (R136). -/
def State.countEntry (s : State) : State := { s with walker := { s.walker with executed := s.walker.executed + 1 } }

/-- The test of a SKIP_UNLESS (R135). -/
def MapEntry.passes (e : MapEntry) (v : BitVec 16) : Bool := v &&& e.mask == e.value

/-- A SKIP_UNLESS whose test is made at index i (R135, R136). -/
def State.doSkip (s : State) (e : MapEntry) (i : Nat) (v : BitVec 16) : Bool × State :=
  if e.passes v then s.countEntry.walkTest i (i + 1) false else s.countEntry.walkTest i (i + 1 + e.skip) true

/-- An entry beyond the payload (R131). -/
def State.shortEntry (s : State) (i : Nat) : State :=
  (s.onWalkCounts fun c => { c with short := bump c.short }).raise .shortFrame (detail i 0)

/-- An entry whose word has gone by (R130). -/
def State.lateEntry (s : State) (i : Nat) : State :=
  (s.onWalkCounts fun c => { c with late := bump c.late }).mapLimit .late i

/-- The walk position is beyond an offset (R130). -/
def Walker.passed (w : Walker) (offset : Nat) : Bool :=
  match w.pos with
  | some p => decide (offset < p)
  | none => false

/-- What judging one entry, read at index i, leads to (R130, R131, R135): whether the walk goes on judging, or else has ended or
waits for the entry's word. -/
def State.judgeEntry (s : State) (n cycle i : Nat) : Bool × State :=
  let r := s.checkAll [mapLoc i 0, mapLoc i 1]
  let e := s.walker.entry i
  if ¬ r.1 then (false, r.2.haltWalk i)
  else if e.action = .endWalk then (false, r.2.endWalk .endEntry)
  else if e.action = .skipUnless ∧ e.offset = cycleNumberCode then r.2.doSkip e i (BitVec.ofNat 16 cycle)
  else if n ≤ e.offset then (r.2.shortEntry i).walkTest i (e.afterMissed i) (decide (e.action = .skipUnless))
  else if s.walker.passed e.offset then (r.2.lateEntry i).walkTest i (e.afterMissed i) (decide (e.action = .skipUnless))
  else (false, r.2)

/-- Entries judged from the current one on, until the walk waits for a word or ends; `k` bounds the entries. -/
def State.judgeFrom (n cycle : Nat) : Nat → State → State
  | 0, s => s
  | k + 1, s =>
    let r := s.judgeEntry n cycle s.walker.cur
    if r.1 then r.2.judgeFrom n cycle k else r.2

/-- The entries judged at most in one go: a walk takes them in strictly increasing index order (R136). -/
def mapEntries : Nat := 128

/-- A walk begins, if the walker is READY with a map (R129). -/
def State.beginWalk (s : State) (n cycle : Nat) : State :=
  if s.walker.state = .ready ∧ 0 < s.walker.len then
    { s with walker := { s.walker with
        state := .walking
        pos := none
        executed := 0
        cur := 0
        counts := { s.walker.counts with begun := bump s.walker.counts.begun } } }.judgeFrom n cycle mapEntries
  else s

/-- The current entry done at its word (R132, R133, R135): the word as it leaves the entry, and whether the walk goes on. -/
def State.doEntry (s : State) (off : Nat) (w : Word) : Word × Bool × State :=
  let i := s.walker.cur
  let e := s.walker.entry i
  let x := { s with walker := { s.walker with pos := some off } }
  match e.action with
  | .take =>
    (w, { x with walker := { x.walker with takes := x.walker.takes.stage e.chan e.item w } }.countEntry.walkTest i (i + 1) false)
  | .takeNode =>
    (w, { x with walker := { x.walker with takes := x.walker.takes.stageSupply w } }.countEntry.walkTest i (i + 1) false)
  | .put =>
    let r := x.putChan e.chan e.item w
    (r.1, r.2.countEntry.walkTest i (i + 1) false)
  | .putNode => (x.putNode e.item, x.countEntry.walkTest i (i + 1) false)
  | .skipUnless => (w, x.doSkip e i (BitVec.setWidth 16 w))
  | .endWalk => (w, false, x)

/-- All entries that name the passing payload word are done at it in index order (R130); `k` bounds them. -/
def State.passWalker (n cycle off : Nat) : Nat → Word → State → Word × State
  | 0, w, s => (w, s)
  | k + 1, w, s =>
    if s.walker.state = .walking ∧ (s.walker.entry s.walker.cur).offset = off then
      let r := s.doEntry off w
      let s1 := if r.2.1 then r.2.2.judgeFrom n cycle mapEntries else r.2.2
      s1.passWalker n cycle off k r.1
    else (w, s)

/-! ## The frame end (R138, R139) -/

/-- The setpoints of one channel delivered (R25, R138). -/
def State.commitChan (s : State) (c : Chan) (k : ChanTakes) : State :=
  let set := k.iq.isSome || k.id.isSome
  s.onChan c fun x =>
    { x with
      hid := { x.hid with
        iqIn := k.iq.getD x.hid.iqIn
        idIn := k.id.getD x.hid.idIn
        vdIn := k.vd.getD x.hid.vdIn
        vqIn := k.vq.getD x.hid.vqIn
        fresh := x.hid.fresh || set }
      counts := if set then { x.counts with setpoints := bump x.counts.setpoints } else x.counts }

/-- The channels a commit brings a request code for (R138). -/
def TakeBuffer.requested (b : TakeBuffer) : List Chan := chans.filter fun c => b.chan[c].request.isSome

/-- For each follower of a list the leader of its valid pair (R8), read through the check bits. -/
def State.leadersOf (s : State) : List Chan → List (Chan × Chan) × State
  | [] => ([], s)
  | c :: cs =>
    let r := s.readPair c fun x => decide (x = .follower)
    let q := r.2.leadersOf cs
    (match r.1.role, r.1.partner with
      | .follower, some l => (c, l) :: q.1
      | _, _ => q.1, q.2)

/-- The pairs that matter to a commit (R8): none are read for fewer than two request codes. -/
def State.commitPairs (s : State) (b : TakeBuffer) : List (Chan × Chan) × State :=
  if b.requested.length < 2 then ([], s) else s.leadersOf b.requested

/-- The order of the request codes of one commit (R8): as `order` says (log 7), but a leader before its follower. -/
def latchOrder (order : List Chan) (leaders : List (Chan × Chan)) : List Chan :=
  (channelOrder order).foldl (fun l c =>
    let pair : List Chan := match leaders.lookup c with
      | some q => [q, c]
      | none => [c]
    pair.foldl (fun l c => if c ∈ l then l else l ++ [c]) l) []

/-- The request taken for a channel reaches its latch (R7). -/
def State.commitRequest (b : TakeBuffer) (s : State) (c : Chan) : State :=
  match b.chan[c].request with
  | some v => s.writeLatch c (requestOf v)
  | none => s

/-- A good frame check: the take buffer is committed and emptied (R138). -/
def State.commit (s : State) (order : List Chan) : State :=
  let b := s.walker.takes
  if b.isEmpty then s
  else
    let s1 := chans.foldl (fun x c => x.commitChan c b.chan[c]) s
    let p := s1.commitPairs b
    let s2 := (latchOrder order p.1).foldl (State.commitRequest b) p.2
    { s2 with
      share := { s2.share with supply := b.supply.getD s2.share.supply }
      walker := { s2.walker with takes := {}, counts := { s2.walker.counts with commits := bump s2.walker.counts.commits } } }

/-- A bad frame check: the take buffer is emptied (R139). -/
def State.discard (s : State) : State :=
  if s.walker.takes.isEmpty then s
  else { s with walker := { s.walker with
    takes := {}, counts := { s.walker.counts with discards := bump s.walker.counts.discards } } }

end Sys2Proof.Machine
end

