-- ==== Sys2Proof/Machine/Tables.lean ====
section
/-! DEFINITION. The exchange tables word by word: what a word reads as (8.1, 8.7) and what a written word is stored as, table by
table. -/

namespace Sys2Proof.Machine

open Sys2Proof

/-! ## Index and word ranges (8.1) -/

/-- The index lies within the table's index range; false for an undefined table. -/
def tableIndexOk (table index : Nat) : Bool :=
  match table with
  | 1 => decide (index ≤ 7)
  | 2 => decide (index ≤ 127)
  | 4 => decide (1 ≤ index ∧ index ≤ 16)
  | 9 => decide (index ≤ 8)
  | 10 => decide (index ≤ 7)
  | 0 => decide (index = 0)
  | 3 => decide (index = 0)
  | 5 => decide (index = 0)
  | 6 => decide (index = 0)
  | 7 => decide (index = 0)
  | 8 => decide (index = 0)
  | _ => false

/-- How many words a table has at an index. -/
def tableWords (table index : Nat) : Nat :=
  match table with
  | 0 => 9
  | 1 => 68
  | 2 => 2
  | 3 => 5
  | 4 => 6
  | 5 => 11
  | 6 => 13
  | 7 => 9
  | 8 => 17
  | 9 => if index = 8 then 24 else 14
  | 10 => 256
  | _ => 0

/-! ## NODE (6.3, R116) -/

/-- The path R113 fixes from the topology and the link state of Port D. -/
def Ring.pathNow (r : Ring) : Path :=
  match r.topology with
  | .loop => .outU
  | .through => .outD
  | .auto => if r.portD.state = .up then .outD else .outU

/-- The value of a word of the NODE table. -/
def Ring.word (r : Ring) (w : Nat) : Int :=
  match w with
  | 0 => r.address.toNat
  | 1 => r.topology.code
  | 2 => r.participation.code
  | 3 => Config.partCode
  | 4 => Config.revision
  | 5 => Config.vendorCode
  | 6 => r.portU.state.code
  | 7 => r.portD.state.code
  | _ => r.pathNow.code

/-- A written word of the NODE table as stored (R116). -/
def Ring.put (r : Ring) (w : Nat) (d : Word) : Ring :=
  match w with
  | 1 => { r with topology := if d = 1 then .through else if d = 2 then .loop else .auto }
  | 2 => { r with participation := if d = 0 then .active else .passive }
  | _ => r

/-! ## ALERT (9.3, R158) -/

/-- The value of a word of the ALERT table at a class's place. -/
def Events.word (e : Events) (i : Fin 16) (w : Nat) : Word :=
  match w with
  | 0 => toWord (bit e.alert[i].enable 0 : Nat)
  | 1 => toWord (e.alert[i].line : Nat)
  | 2 => toWord (bit e.pending[i].isSome 0 : Nat)
  | 3 => toWord (e.pending[i].elim 0 Pending.count : Nat)
  | 4 => e.pending[i].elim 0 fun p => p.detail.w0
  | _ => e.pending[i].elim 0 fun p => p.detail.w1

/-- A written alert map word as stored (R158). -/
def AlertEntry.put (a : AlertEntry) (w : Nat) (d : Word) : AlertEntry :=
  if w = 0 then { a with enable := decide (d ≠ 0) } else { a with line := min d.toNat 7 }

/-! ## INTEGRITY (10.2, R167, R168) -/

/-- The memory code of a capture; 7 is NONE. -/
def captureMemory : Option Loc → Nat
  | some l => l.mem.code
  | none => 7

/-- The location word of a capture. -/
def captureLoc : Option Loc → Nat
  | some l => l.place
  | none => 0

/-- The code of an injection kind. -/
def injectionCode : Option Flaw → Nat
  | none => 0
  | some .single => 1
  | some .double => 2

/-- The parity injection flags as a number, channel k in bit k. -/
def Integrity.parityBits (g : Integrity) : Nat := (chans.map fun c => bit g.parity[c] c.val).sum

/-- The value of a word of the INTEGRITY table. -/
def Integrity.word (g : Integrity) (w : Nat) : Int :=
  match w with
  | 0 => g.corrected
  | 1 => g.uncorrectable
  | 2 => captureMemory g.corrCapture
  | 3 => captureLoc g.corrCapture
  | 4 => captureMemory g.uncCapture
  | 5 => captureLoc g.uncCapture
  | 6 => g.target.code
  | 7 => injectionCode g.kind
  | _ => g.parityBits

/-- A target as written; above 3 it is TRACE (R167). -/
def memIdOf (n : Nat) : MemId := match n with
  | 0 => .channel
  | 1 => .map
  | 2 => .alert
  | _ => .trace

/-- A kind as written; above 2 it is NONE (R167). -/
def injectionOf (n : Nat) : Option Flaw := match n with
  | 1 => some .single
  | 2 => some .double
  | _ => none

/-- A written word of the INTEGRITY table as stored (R167). -/
def Integrity.put (g : Integrity) (w : Nat) (d : Word) : Integrity :=
  match w with
  | 6 => { g with target := memIdOf d.toNat }
  | 7 => { g with kind := injectionOf d.toNat }
  | 8 => { g with parity := Vector.ofFn fun i : Fin 8 => d.getLsbD i.val }
  | _ => g

/-- INTEGRITY_CLEAR (R168). -/
def Integrity.clear (g : Integrity) : Integrity :=
  { g with corrected := 0, uncorrectable := 0, corrCapture := none, uncCapture := none }

/-! ## TRACE (11.1, R172) -/

/-- The value of a word of the TRACE table. -/
def Trace.word (t : Trace) (w : Nat) : Int :=
  match w with
  | 0 => t.state.code
  | 1 => t.laneChan[0].val
  | 2 => t.laneChan[1].val
  | 3 => t.laneChan[2].val
  | 4 => t.laneChan[3].val
  | 5 => t.laneQty[0].val
  | 6 => t.laneQty[1].val
  | 7 => t.laneQty[2].val
  | 8 => t.laneQty[3].val
  | 9 => t.refChan.val
  | 10 => t.pre
  | 11 => t.post
  | 12 => t.source.code
  | 13 => t.trigClass
  | 14 => t.level
  | 15 => t.entries.length
  | _ => t.trigSample

/-- A channel as written; above 7 it is 7 (R172). -/
def chanOf (n : Nat) : Chan := Fin.ofNat 8 (min n 7)

/-- A quantity as written; above 15 it is OFF (R172). -/
def quantityOf (n : Nat) : Fin 16 := if n > 15 then 0 else Fin.ofNat 16 n

/-- A trigger source as written; above 3 it is COMMAND (R172). -/
def sourceOf (n : Nat) : TraceSource := match n with
  | 1 => .event
  | 2 => .rising
  | 3 => .falling
  | _ => .command

/-- A written word of the TRACE table as stored (R172). -/
def Trace.put (t : Trace) (w : Nat) (d : Word) : Trace :=
  let n := d.toNat
  match w with
  | 1 => { t with laneChan := t.laneChan.set 0 (chanOf n) }
  | 2 => { t with laneChan := t.laneChan.set 1 (chanOf n) }
  | 3 => { t with laneChan := t.laneChan.set 2 (chanOf n) }
  | 4 => { t with laneChan := t.laneChan.set 3 (chanOf n) }
  | 5 => { t with laneQty := t.laneQty.set 0 (quantityOf n) }
  | 6 => { t with laneQty := t.laneQty.set 1 (quantityOf n) }
  | 7 => { t with laneQty := t.laneQty.set 2 (quantityOf n) }
  | 8 => { t with laneQty := t.laneQty.set 3 (quantityOf n) }
  | 9 => { t with refChan := chanOf n }
  | 10 => { t with pre := min n 1023, post := min t.post (1024 - min n 1023) }
  | 11 => { t with post := max 1 (min n (1024 - t.pre)) }
  | 12 => { t with source := sourceOf n }
  | 13 => { t with trigClass := max 1 (min n 16) }
  | 14 => { t with level := clamp (-32768) 65535 d.toInt }
  | _ => t

/-! ## COUNTERS (8.7) -/

/-- The value of a word of the COUNTERS table at a channel. -/
def State.chanCounter (s : State) (c : Chan) (w : Nat) : Nat :=
  let k := (s.chan c).counts
  let l := (s.link c).counts
  match w with
  | 0 => k.completed
  | 1 => k.abandoned
  | 2 => k.overrun
  | 3 => l.damaged
  | 4 => l.parity
  | 5 => l.missWindow
  | 6 => l.missParity
  | 7 => l.missEcho
  | 8 => l.late
  | 9 => l.stray
  | 10 => l.timeouts
  | 11 => l.sent
  | 12 => k.setpoints
  | _ => stageStatusWord (s.link c)

/-- The value of a word of the COUNTERS table at index 8. -/
def State.nodeCounter (s : State) (w : Nat) : Nat :=
  match w with
  | 0 => s.tb.marksTaken
  | 1 => s.tb.marksMissed
  | 2 => s.share.budgets
  | 3 => s.share.restrictedBudgets
  | 4 => s.ring.counts.frames
  | 5 => s.ring.counts.headerFail
  | 6 => s.ring.counts.checkFail
  | 7 => s.ring.counts.undefKinds
  | 8 => s.ring.counts.lost
  | 9 => s.ring.counts.discards
  | 10 => s.ring.counts.symErrU
  | 11 => s.ring.counts.symErrD
  | 12 => s.walker.counts.begun
  | 13 => s.walker.counts.late
  | 14 => s.walker.counts.short
  | 15 => s.walker.counts.limited
  | 16 => s.walker.counts.commits
  | 17 => s.walker.counts.discards
  | 18 => s.walker.counts.halts
  | 19 => s.resp.counts.taken
  | 20 => s.resp.counts.busy
  | 21 => s.resp.counts.repeats
  | 22 => s.resp.counts.deferred
  | _ => s.resp.counts.dropped

/-! ## Reading a word (R147) -/

/-- The channel an index names. -/
def chanIndex (i : Nat) : Chan := Fin.ofNat 8 i

/-- The place of the pending set and alert map an ALERT index names. -/
def placeIndex (i : Nat) : Fin 16 := Fin.ofNat 16 (i - 1)

/-- The value of a word of a table as it stands. -/
def State.tableWord (s : State) (table index w : Nat) : Word :=
  match table with
  | 0 => toWord (s.ring.word w)
  | 1 => toWord ((s.rcd (chanIndex index)).word w)
  | 2 => (s.walker.entry index).word w
  | 3 => toWord (s.walker.word w)
  | 4 => s.svc.events.word (placeIndex index) w
  | 5 => toWord (s.share.word w)
  | 6 => toWord (s.tb.word w)
  | 7 => toWord (s.svc.integ.word w)
  | 8 => toWord (s.svc.trace.word w)
  | 9 => if index = 8 then toWord (s.nodeCounter w : Nat) else toWord (s.chanCounter (chanIndex index) w : Nat)
  | _ => 0

/-- The protected word behind a word of a table (10.1). -/
def tableLoc (table index w : Nat) : Option Loc :=
  match table with
  | 1 => some (chanLoc (chanIndex index) w)
  | 2 => some (mapLoc index w)
  | 4 => if w ≤ 1 then some (alertLoc (placeIndex index).val w) else none
  | _ => none

/-- The words a READ returns (R147): each as it stands when the request is taken, up to an uncorrectable one; whether all could
be read, and what the readings leave. `s0` is the state when the request was taken. -/
def State.readWords (s0 : State) (table index : Nat) : List Nat → State → List Word × Bool × State
  | [], s => ([], true, s)
  | w :: ws, s =>
    let r := match tableLoc table index w with
      | some l => s.check l
      | none => (true, s)
    if r.1 then
      let q := s0.readWords table index ws r.2
      (s0.tableWord table index w :: q.1, q.2.1, q.2.2)
    else ([], false, r.2)

end Sys2Proof.Machine
end

