-- ==== Sys2Proof/Machine/Transmitter.lean ====
section
/-! DEFINITION. The transmitters of the ring ports as time passes (06, 6.2; R113, R114; log 23, log 24). -/

namespace Sys2Proof.Machine

open Sys2Proof

/-- Changes the ring interface. -/
def State.onRing (s : State) (f : Ring → Ring) : State := { s with ring := f s.ring }

/-- Changes the counters of the ring interface. -/
def State.onRingCounts (s : State) (f : RingCounts → RingCounts) : State :=
  s.onRing fun r => { r with counts := f r.counts }

/-- The instant a frame is due to leave Port U (R113, R114). -/
def TxFrame.due (x : TxFrame) : Nat := x.startAt + if x.returning then Config.returnTicks else Config.forwardTicks

/-- The instant a frame's end symbol has gone, once it has both left and ended. -/
def TxFrame.goneAt (x : TxFrame) : Option Nat :=
  match x.leftAt, x.ended with
  | some l, some e => some (e + (l - x.startAt))
  | _, _ => none

/-- How many words have left by now, of those that came at these instants, each a delay after it came (R113, R114). -/
def leftBy (times : List Nat) (delay now : Nat) : Nat := (times.takeWhile fun a => decide (a + delay ≤ now)).length

/-- The frame of a port that is still being received: the returning one, or the one turned back. -/
def TxFrame.isOpen (x : TxFrame) (returning : Bool) : Bool := x.returning == returning && x.ended.isNone

/-- A frame that will leave Port U takes its place among those not yet due; of two due at one moment the earlier one stays first
(log 24). -/
def insertDue (x : TxFrame) : List TxFrame → List TxFrame
  | [] => [x]
  | y :: ys => if x.due < y.due then x :: y :: ys else y :: insertDue x ys

/-- A frame that started now will leave Port U. -/
def Ring.enqueue (r : Ring) (returning : Bool) (now : Nat) : Ring :=
  { r with uDue := insertDue { returning := returning, startAt := now, leftAt := none, ended := none } r.uDue }

/-- The waiting frame starts at an instant. -/
def Ring.startWaiting (r : Ring) (at_ : Nat) : Ring :=
  { r with uSending := r.uWaiting.map fun w => { w with leftAt := some (max w.due at_) }, uWaiting := none }

/-- Counts frames lost (R125). -/
def RingCounts.lose (k : RingCounts) (n : Nat) : RingCounts := { k with lost := bump^[n] k.lost }

/-- A frame is dropped at Port U's transmitter (R114): it is counted lost, and what is still received of it goes nowhere; one that has
ended, and so was noted as forwarded, is noted with no words (log 40). -/
def Ring.dropTx (r : Ring) (x : TxFrame) : Ring :=
  { r with
    counts := r.counts.lose 1
    forwarded := if x.ended.isSome then some { path := .outU, words := [] } else r.forwarded
    frame := if x.isOpen false then r.frame.map fun f => { f with lost := true } else r.frame
    back := if x.isOpen true then r.back.map fun b => { b with lost := true } else r.back }

/-- A frame is due to leave Port U: it is sent, waits, or is dropped (R114). -/
def Ring.offer (r : Ring) (x : TxFrame) : Ring :=
  if r.uSending.isNone then { r with uSending := some { x with leftAt := some x.due } }
  else if r.uWaiting.isNone then { r with uWaiting := some x }
  else r.dropTx x

/-- The next thing that happens at the transmitter by an instant, if any: the frame being sent has gone, or a frame is due. At one
moment the frame goes first. -/
def Ring.settleOnce (r : Ring) (now : Nat) : Option Ring :=
  let gone := r.uSending.bind TxFrame.goneAt
  match r.uDue with
  | [] => gone.bind fun g => if g ≤ now then some (r.startWaiting g) else none
  | x :: xs =>
    if gone.any (fun g => decide (g ≤ x.due ∧ g ≤ now)) then gone.map r.startWaiting
    else if x.due ≤ now then some ({ r with uDue := xs }.offer x) else none

/-- Up to `n` things that happen at the transmitter by an instant. -/
def Ring.settleN : Nat → Ring → Nat → Ring
  | 0, r, _ => r
  | n + 1, r, now =>
    match r.settleOnce now with
    | some q => q.settleN n now
    | none => r

/-- The transmitters as they stand at an instant: every frame has at most become due and gone by then. -/
def Ring.settle (r : Ring) (now : Nat) : Ring :=
  let q := r.settleN (2 * r.uDue.length + 2) now
  { q with dTail := q.dTail.filter fun g => decide (now < g.gone) }

/-- The frame of a port ended at an instant. -/
def TxFrame.close (returning : Bool) (now : Nat) (x : TxFrame) : TxFrame :=
  if x.isOpen returning then { x with ended := some now } else x

/-- The frame of a port has ended, wherever it stands at the transmitter. -/
def Ring.closeTx (r : Ring) (returning : Bool) (now : Nat) : Ring :=
  let f := TxFrame.close returning now
  { r with uDue := r.uDue.map f, uSending := r.uSending.map f, uWaiting := r.uWaiting.map f }

/-- The delay of the frame of a port that is going out of Port U, if its start symbol has left (R113, R114). -/
def Ring.goingOut (r : Ring) (returning : Bool) : Option Nat :=
  (r.uSending.filter fun x => x.isOpen returning).bind fun x => x.leftAt.map fun l => l - x.startAt

/-- The frame of a port is closed at once, or has not begun to go out: it stands at the transmitter no longer (R112), and a frame that
waited for it starts now. -/
def Ring.withdrawTx (r : Ring) (returning : Bool) (now : Nat) : Ring :=
  let live (x : TxFrame) : Bool := !x.isOpen returning
  let q := { r with uDue := r.uDue.filter live, uSending := r.uSending.filter live, uWaiting := r.uWaiting.filter live }
  if r.uSending.isSome ∧ q.uSending = none then q.startWaiting now else q

/-- Time reaches an instant, and the transmitters follow. -/
def State.arrive (s : State) (t : Nat) : State := (s.advance t).onRing fun r => r.settle (s.advance t).now

end Sys2Proof.Machine
end

