-- ==== Sys2Proof/Machine/Exchange.lean ====
section
/-! DEFINITION. The exchange responder (08): taking a request, judging it, reading, writing, commands, vectors, fetches, repeats. -/

namespace Sys2Proof.Machine

open Sys2Proof

/-! ## Replies without data -/

/-- A reply with a status alone. -/
def State.plain (s : State) (r : ReqArea) (st : ReplyStatus) : Reply := s.replyTo r st [] 0

/-- A reply OK with its data. -/
def State.okData (s : State) (r : ReqArea) (data : List Word) : Reply := s.replyTo r .ok data data.length

/-! ## The words of a request -/

/-- The words a READ or WRITE names, in increasing order. -/
def reqWords (r : ReqArea) : List Nat := (List.range r.count.toNat).map fun k => r.word.toNat + k

/-- Each word a WRITE names with its data word. -/
def reqWrites (r : ReqArea) : List (Nat × Word) := (reqWords r).zip r.data.toList

/-- Tests 3 and 4 of R146. -/
def rangeOk (r : ReqArea) : Bool :=
  tableIndexOk r.table.toNat r.index.toNat &&
    (decide (r.count = 0) || decide (r.word.toNat + r.count.toNat ≤ tableWords r.table.toNat r.index.toNat))

/-! ## READ (R147) -/

/-- A READ of a node table. -/
def State.answerRead (s : State) (r : ReqArea) : Reply × State :=
  let q := s.readWords r.table.toNat r.index.toNat (reqWords r) s
  (s.replyTo r (if q.2.1 then .ok else .integrity) q.1 q.1.length, q.2.2)

/-! ## WRITE (R148) -/

/-- The reply of a permitted write: the stored value of each word written, read back from the state it left. -/
def State.writeReply (s : State) (r : ReqArea) : Reply :=
  s.okData r ((reqWords r).map fun w => s.tableWord r.table.toNat r.index.toNat w)

/-- A WRITE to a table whose words carry no check bits: DENIED as a whole, or every word put. -/
def State.writePlain (s : State) (r : ReqArea) (writable : Nat → Bool) (put : State → Nat → Word → State) : Reply × State :=
  if (reqWords r).all writable then
    let x := (reqWrites r).foldl (fun x p => put x p.1 p.2) s
    (x.writeReply r, x)
  else (s.plain r .denied, s)

/-- NODE_WRITE (R116). -/
def State.writeNode (s : State) (r : ReqArea) : Reply × State :=
  s.writePlain r (fun w => w == 1 || w == 2) fun x w d => { x with ring := x.ring.put w d }

/-- SHARE_WRITE (R96). -/
def State.writeShare (s : State) (r : ReqArea) : Reply × State :=
  s.writePlain r (fun w => decide (w ≤ 2)) fun x w d => { x with share := x.share.put w d }

/-- The timebase words are stored (R59). -/
def State.storeTimebase (s : State) (r : ReqArea) : Reply × State :=
  s.writePlain r (fun w => decide (1 ≤ w ∧ w ≤ 6)) fun x w d => { x with tb := x.tb.put w d }

/-- TIMEBASE_WRITE (R59): the cycle length is writable with every channel OFF; the state words are read for that test (R148; log 17), and
one that is uncorrectable gives INTEGRITY though another channel is not OFF (log 47). -/
def State.writeTimebase (s : State) (r : ReqArea) : Reply × State :=
  if (reqWords r).all (fun w => decide (1 ≤ w ∧ w ≤ 6)) ∧ 1 ∈ reqWords r then
    let q := s.checkAll (chans.map fun c => chanLoc c 35)
    if ¬ q.1 then (s.plain r .integrity, q.2)
    else if chans.all (fun c => decide ((s.status c).state = .off)) then q.2.storeTimebase r
    else (s.plain r .denied, q.2)
  else s.storeTimebase r

/-- INTEGRITY_WRITE (R167). -/
def State.writeIntegrity (s : State) (r : ReqArea) : Reply × State :=
  s.writePlain r (fun w => decide (6 ≤ w)) fun x w d => { x with svc := { x.svc with integ := x.svc.integ.put w d } }

/-- The recorder's settings may be written (R172). -/
def TraceState.rests : TraceState → Bool
  | .idle => true
  | .done => true
  | _ => false

/-- TRACE_WRITE (R172). -/
def State.writeTrace (s : State) (r : ReqArea) : Reply × State :=
  s.writePlain r (fun w => s.svc.trace.state.rests && decide (1 ≤ w ∧ w ≤ 14)) fun x w d =>
    { x with svc := { x.svc with trace := x.svc.trace.put w d } }

/-- MAP_CONTROL_WRITE (R127). -/
def State.writeMapControl (s : State) (r : ReqArea) : Reply × State :=
  s.writePlain r (fun w => s.walker.state.editable && (w == 1 || w == 2)) fun x w d =>
    { x with walker := x.walker.put w d }

/-- ALERT_WRITE (R158); the words written are one store (R169). -/
def State.writeAlert (s : State) (r : ReqArea) : Reply × State :=
  let i := placeIndex r.index.toNat
  if (reqWords r).all (fun w => decide (w ≤ 1)) then
    let x := { s with svc := ({ s.svc with events := { s.svc.events with
        alert := s.svc.events.alert.set i ((reqWrites r).foldl (fun a p => a.put p.1 p.2) s.svc.events.alert[i]) } } :
          Services).store ((reqWords r).map (alertLoc i.val)) }
    (x.writeReply r, x)
  else (s.plain r .denied, s)

/-- The words of the entry that a MAP write does not name: its checks read them (R126, R148). -/
def otherWords (r : ReqArea) : List Nat := [0, 1].filter fun w => decide (w ∉ reqWords r)

/-- MAP_WRITE (R126, R127); the reply has the request's count, and its data carries the words written and then the other word of the
entry (R148; log 16). -/
def State.writeMap (s : State) (r : ReqArea) : Reply × State :=
  let i := r.index.toNat
  if s.walker.state.editable then
    let q := s.checkAll ((otherWords r).map (mapLoc i))
    if q.1 then
      let e := (reqWrites r).foldl (fun e p => e.put p.1 p.2) (s.walker.entry i)
      let x := { q.2 with
        walker := { q.2.walker with map := q.2.walker.map.set (Fin.ofNat 128 i) e }
        svc := q.2.svc.store ((reqWords r).map (mapLoc i)) }
      (x.replyTo r .ok ((reqWords r ++ otherWords r).map e.word) r.count.toNat, x)
    else (s.plain r .integrity, q.2)
  else (s.plain r .denied, s)

/-- The words whose stored value the clamping of a CHANNEL write depends on, less those the write itself stores (R2, R148; log
17). -/
def clampReads (ws : List Nat) : List Nat :=
  let named (w : Nat) : Bool := decide (w ∈ ws)
  (if (named 1 || named 3) && !named 0 then [0] else []) ++
  (if named 3 && !named 2 then [2] else []) ++
  (if named 22 && !named 19 then [19] else []) ++
  (if named 19 && !named 22 then [22] else []) ++
  (if named 18 then [49] else [])

/-- The record as it will stand once the writes held for the job in service are applied (R1). -/
def State.heldRecord (s : State) (c : Chan) : Record :=
  (s.chan c).held.foldl (fun r ps => r.putAll ps) (s.rcd c)

/-- A job of the channel is in service. -/
def State.inService (s : State) (c : Chan) : Bool := s.cu.service.any fun v => decide (v.job.chan = c)

/-- A permitted CHANNEL write is applied, or held for the job in service (R1); the reply carries the values as they will stand. -/
def State.storeChannel (s : State) (r : ReqArea) : Reply × State :=
  let c := chanIndex r.index.toNat
  let base := s.heldRecord c
  let ps := clampWrites s.tb.cycleLen base r.word.toNat (r.data.toList.take r.count.toNat)
  let after := base.putAll ps
  let x := if s.inService c then s.onChan c fun k => { k with held := k.held ++ [ps] } else s.applyWrite c ps
  (s.okData r ((reqWords r).map fun w => toWord (after.word w)), x)

/-- CHANNEL_WRITE (R1, R2): DENIED for a status word, and for a setup word outside OFF; INTEGRITY when a word the check or a clamp
depends on is uncorrectable (R148). DENIED comes before the reading of a word that a later test or clamp would need (log 47). -/
def State.writeChannel (s : State) (r : ReqArea) : Reply × State :=
  let c := chanIndex r.index.toNat
  let ws := reqWords r
  if ws.any isStatus then (s.plain r .denied, s)
  else
    let a := if ws.any isSetup then s.check (chanLoc c 35) else (true, s)
    if ¬ a.1 then (s.plain r .integrity, a.2)
    else if ws.any isSetup ∧ (s.status c).state ≠ .off then (s.plain r .denied, a.2)
    else
      let q := a.2.checkAll ((clampReads ws).map (chanLoc c))
      if q.1 then q.2.storeChannel r else (s.plain r .integrity, q.2)

/-- A WRITE by its table (R148); every word of COUNTERS is read-only. -/
def State.answerWrite (s : State) (r : ReqArea) : Reply × State :=
  match r.table.toNat with
  | 0 => s.writeNode r
  | 1 => s.writeChannel r
  | 2 => s.writeMap r
  | 3 => s.writeMapControl r
  | 4 => s.writeAlert r
  | 5 => s.writeShare r
  | 6 => s.writeTimebase r
  | 7 => s.writeIntegrity r
  | 8 => s.writeTrace r
  | _ => (s.plain r .denied, s)

/-! ## STAGE (R89) -/

/-- The request a pass-through carries to the stage (R89); that a READ carries data word 0 in its data field is log 45. -/
def passRequest (r : ReqArea) : PassRequest :=
  { reg := r.word, write := decide (r.kind = kindWrite), data := BitVec.setWidth 16 r.data[0] }

/-- A READ or WRITE of the STAGE table with a count above 0 (R89, R150). -/
def State.answerStage (s : State) (r : ReqArea) : Reply × State :=
  let c := chanIndex r.index.toNat
  if r.count ≠ 1 then (s.plain r .badRequest, s)
  else if ¬ (s.link c).present then (s.plain r .stageAbsent, s)
  else
    let x := s.onLink c fun l =>
      { l with pass := some { req := passRequest r, started := false, timeout := s.now + Config.passTimeoutTicks } }
    (s.plain r .pending, { x with resp := { x.resp with state := .waiting, flight := some r } })

/-- A READ or WRITE (R146, R147, R148). -/
def State.answerAccess (s : State) (r : ReqArea) : Reply × State :=
  if ¬ rangeOk r then (s.plain r .badRequest, s)
  else if r.count = 0 then (s.plain r .ok, s)
  else if r.table.toNat = tableStage then s.answerStage r
  else if r.kind = kindRead then s.answerRead r
  else s.answerWrite r

/-! ## COMMAND (R153) -/

/-- CLEAR_EVENTS (R162). -/
def State.clearEvents (s : State) : State :=
  { s with svc := { s.svc with events := { s.svc.events with pending := Vector.replicate 16 none } } }

/-- STAGE_RESET (R85); the state is read through the check bits (R165, R166). -/
def State.answerStageReset (s : State) (r : ReqArea) : Reply × State :=
  let c := chanIndex r.index.toNat
  let q := s.readState c
  if q.1 = .off ∨ q.1 = .faulted then (s.plain r .ok, q.2.onLink c Link.orderReset) else (s.plain r .denied, q.2)

/-- CHANNEL_REQUEST (R7, R153): the reply carries the channel's state after the code has acted, a state word still uncorrectable
then shown as FAULTED (log 10). -/
def State.answerRequest (s : State) (r : ReqArea) : Reply × State :=
  let c := chanIndex r.index.toNat
  let x := s.writeLatch c (requestOf (requestNibble r))
  let st := takenState (decide (x.svc.flawAt (chanLoc c 35) ≠ some .double)) (x.status c).state
  (s.okData r [toWord (st.code : Nat)], x)

/-- Changes the recorder. -/
def State.onTrace (s : State) (f : Trace → Trace) : State := { s with svc := { s.svc with trace := f s.svc.trace } }

/-- TRACE_ARM (R174). -/
def State.answerTraceArm (s : State) (r : ReqArea) : Reply × State :=
  if s.svc.trace.state.rests then (s.plain r .ok, s.onTrace Trace.arm) else (s.plain r .denied, s)

/-- TRACE_TRIGGER (R175). -/
def State.answerTraceTrigger (s : State) (r : ReqArea) : Reply × State :=
  if s.svc.trace.state = .filling ∨ s.svc.trace.state = .armed then (s.plain r .ok, s.onTrace Trace.trigger)
  else (s.plain r .denied, s)

/-- TRACE_STOP (R176). -/
def State.traceStop (s : State) : State := s.onTrace fun t => { t with state := .done }

/-- INTEGRITY_CLEAR (R168). -/
def State.integrityClear (s : State) : State := { s with svc := { s.svc with integ := s.svc.integ.clear } }

/-- A COMMAND by its word (R153). -/
def State.answerCommand (s : State) (r : ReqArea) : Reply × State :=
  match r.word.toNat with
  | 0 => (s.plain r .ok, s.clearEvents)
  | 1 => (s.plain r .ok, s.clearCounters)
  | 2 => (s.plain r .ok, { s with resp := { s.resp with resetOrdered := true } })
  | 3 => (s.plain r .ok, { s with walker := s.walker.enable })
  | 4 => (s.plain r .ok, { s with walker := s.walker.disable })
  | 5 => (s.plain r .ok, { s with tb := s.tb.syncClear })
  | 6 => if r.index.toNat ≤ 7 then s.answerStageReset r else (s.plain r .badRequest, s)
  | 7 => if r.index.toNat ≤ 7 then s.answerRequest r else (s.plain r .badRequest, s)
  | 8 => s.answerTraceArm r
  | 9 => s.answerTraceTrigger r
  | 10 => (s.plain r .ok, s.traceStop)
  | 11 => (s.plain r .ok, s.integrityClear)
  | _ => (s.plain r .badRequest, s)

/-! ## VECTOR and FETCH (R161, R163, R177) -/

/-- The first occupied place of the pending set. -/
def Events.first (e : Events) : Option (Fin 16 × Pending) :=
  (List.finRange 16).findSome? fun i => e.pending[i].map fun p => (i, p)

/-- VECTOR(EVENT) (R161): the data of the reply, and the set without the class returned. -/
def Events.takeEvent (e : Events) : List Word × Events :=
  match e.first with
  | none => ([0, 0, 0, 0, 0], e)
  | some (i, p) =>
    let e1 := { e with pending := e.pending.set i none }
    ([toWord (i.val + 1 : Nat), toWord (p.count : Nat), p.detail.w0, p.detail.w1, toWord (e1.pendingCount : Nat)], e1)

/-- VECTOR(RESET) (R163): the data of the reply, and the set without the cause returned. -/
def Events.takeCause (e : Events) : List Word × Events :=
  if e.causePowerOn then
    ([1, toWord (bit e.causeRing 0 + bit e.causeNode 0 : Nat)], { e with causePowerOn := false })
  else if e.causeRing then ([2, toWord (bit e.causeNode 0 : Nat)], { e with causeRing := false })
  else if e.causeNode then ([3, 0], { e with causeNode := false })
  else ([0, 0], e)

/-- A VECTOR (R153, R161, R163). -/
def State.answerVector (s : State) (r : ReqArea) : Reply × State :=
  match r.index.toNat with
  | 0 => (s.okData r s.svc.events.takeEvent.1, { s with svc := { s.svc with events := s.svc.events.takeEvent.2 } })
  | 1 => (s.okData r s.svc.events.takeCause.1, { s with svc := { s.svc with events := s.svc.events.takeCause.2 } })
  | _ => (s.plain r .badRequest, s)

/-- A FETCH (R153, R177). -/
def State.answerFetch (s : State) (r : ReqArea) : Reply × State :=
  if r.index ≠ 0 then (s.plain r .badRequest, s)
  else if s.svc.trace.state = .done then (s.okData r s.fetchData.1, s.fetchData.2)
  else (s.plain r .denied, s)

/-! ## Taking a request (R145, R146, R152, R154) -/

/-- A new request judged and acted on (R146): the reply, and what it leaves. -/
def State.answer (s : State) (r : ReqArea) : Reply × State :=
  if r.kind.toNat > 4 ∨ r.count.toNat > 8 then (s.plain r .badRequest, s)
  else if r.kind = kindCommand then s.answerCommand r
  else if r.kind = kindVector then s.answerVector r
  else if r.kind = kindFetch then s.answerFetch r
  else s.answerAccess r

/-- Changes the responder. -/
def State.onResp (s : State) (f : Responder → Responder) : State := { s with resp := f s.resp }

/-- Changes the responder's counters. -/
def State.onRespCounts (s : State) (f : RespCounts → RespCounts) : State :=
  s.onResp fun p => { p with counts := f p.counts }

/-- The reply the repeat memory keeps for a request, if it is a repeat (R152). -/
def Responder.repeated (p : Responder) (r : ReqArea) : Option Reply :=
  match p.memory with
  | some m => if m.1 = memoryKey r then some m.2 else none
  | none => none

/-- A request taken in IDLE (R145, R152): the request counts before it acts (log 41). -/
def State.take (s : State) (r : ReqArea) : State :=
  let x := s.onRespCounts fun k => { k with taken := bump k.taken }
  match s.resp.repeated r with
  | some rep => x.onResp fun p => { p with formed := some rep, counts := { p.counts with repeats := bump p.counts.repeats } }
  | none =>
    let a := x.answer r
    a.2.onResp fun p => { p with formed := some a.1, memory := some (memoryKey r, a.1) }

/-- The node takes part in the exchange of a request: its address is not 0 and is the target (R119, R145). -/
def State.addressed (s : State) (r : ReqArea) : Bool := decide (s.ring.address ≠ 0 ∧ r.target = s.ring.address)

/-- The request area of a CYCLE frame whose header is good (R145). -/
def State.request (s : State) (r : ReqArea) : State :=
  if s.addressed r then
    match s.resp.state with
    | .idle => s.take r
    | .waiting =>
      s.onResp fun p => { p with formed := some (s.plain r .busy), counts := { p.counts with busy := bump p.counts.busy } }
    | .holding => s.onRespCounts fun k => { k with deferred := bump k.deferred }
  else s

/-- The request area reaches the responder at an instant. -/
def State.requestAt (s : State) (t : Nat) (r : ReqArea) : Host.Outcome State Fault Refusal := .next ((s.arrive t).request r)

/-! ## The rows of the exchange (log 3) -/

/-- WRITE (R148). -/
def execWrite (t : Nat) (r : ReqArea) (s : State) : Host.Outcome State Fault Refusal := s.requestAt t (asWrite r)

/-- CHANNEL_WRITE (R1). -/
def execChannelWrite (t : Nat) (r : ReqArea) (s : State) : Host.Outcome State Fault Refusal :=
  s.requestAt t (asWriteTo tableChannel r)

/-- TIMEBASE_WRITE (R59). -/
def execTimebaseWrite (t : Nat) (r : ReqArea) (s : State) : Host.Outcome State Fault Refusal :=
  s.requestAt t (asWriteTo tableTimebase r)

/-- SHARE_WRITE (R96). -/
def execShareWrite (t : Nat) (r : ReqArea) (s : State) : Host.Outcome State Fault Refusal :=
  s.requestAt t (asWriteTo tableShare r)

/-- NODE_WRITE (R116). -/
def execNodeWrite (t : Nat) (r : ReqArea) (s : State) : Host.Outcome State Fault Refusal :=
  s.requestAt t (asWriteTo tableNode r)

/-- MAP_WRITE (R126). -/
def execMapWrite (t : Nat) (r : ReqArea) (s : State) : Host.Outcome State Fault Refusal :=
  s.requestAt t (asWriteTo tableMap r)

/-- MAP_CONTROL_WRITE (R127). -/
def execMapControlWrite (t : Nat) (r : ReqArea) (s : State) : Host.Outcome State Fault Refusal :=
  s.requestAt t (asWriteTo tableMapControl r)

/-- ALERT_WRITE (R158). -/
def execAlertWrite (t : Nat) (r : ReqArea) (s : State) : Host.Outcome State Fault Refusal :=
  s.requestAt t (asWriteTo tableAlert r)

/-- INTEGRITY_WRITE (R167). -/
def execIntegrityWrite (t : Nat) (r : ReqArea) (s : State) : Host.Outcome State Fault Refusal :=
  s.requestAt t (asWriteTo tableIntegrity r)

/-- TRACE_WRITE (R172). -/
def execTraceWrite (t : Nat) (r : ReqArea) (s : State) : Host.Outcome State Fault Refusal :=
  s.requestAt t (asWriteTo tableTrace r)

/-- STAGE_READ (R89). -/
def execStageRead (t : Nat) (r : ReqArea) (s : State) : Host.Outcome State Fault Refusal :=
  s.requestAt t (asReadOf tableStage r)

/-- STAGE_WRITE (R89). -/
def execStageWrite (t : Nat) (r : ReqArea) (s : State) : Host.Outcome State Fault Refusal :=
  s.requestAt t (asWriteTo tableStage r)

/-- CLEAR_EVENTS (R162). -/
def execClearEvents (t : Nat) (r : ReqArea) (s : State) : Host.Outcome State Fault Refusal :=
  s.requestAt t (asCommand cmdClearEvents r)

/-- CLEAR_COUNTERS (R76). -/
def execClearCounters (t : Nat) (r : ReqArea) (s : State) : Host.Outcome State Fault Refusal :=
  s.requestAt t (asCommand cmdClearCounters r)

/-- NODE_RESET (R153): applied at the end of the frame that carries it. -/
def execNodeReset (t : Nat) (r : ReqArea) (s : State) : Host.Outcome State Fault Refusal :=
  s.requestAt t (asCommand cmdNodeReset r)

/-- MAP_ENABLE (R128). -/
def execMapEnable (t : Nat) (r : ReqArea) (s : State) : Host.Outcome State Fault Refusal :=
  s.requestAt t (asCommand cmdMapEnable r)

/-- MAP_DISABLE (R128). -/
def execMapDisable (t : Nat) (r : ReqArea) (s : State) : Host.Outcome State Fault Refusal :=
  s.requestAt t (asCommand cmdMapDisable r)

/-- SYNC_CLEAR (R66). -/
def execSyncClear (t : Nat) (r : ReqArea) (s : State) : Host.Outcome State Fault Refusal :=
  s.requestAt t (asCommand cmdSyncClear r)

/-- STAGE_RESET (R85). -/
def execStageReset (t : Nat) (r : ReqArea) (s : State) : Host.Outcome State Fault Refusal :=
  s.requestAt t (asCommand cmdStageReset r)

/-- ARM (R9). -/
def execArm (t : Nat) (r : ReqArea) (s : State) : Host.Outcome State Fault Refusal := s.requestAt t (asRequest 1 r)

/-- RUN (R13). -/
def execRun (t : Nat) (r : ReqArea) (s : State) : Host.Outcome State Fault Refusal := s.requestAt t (asRequest 2 r)

/-- HALT (R15). -/
def execHalt (t : Nat) (r : ReqArea) (s : State) : Host.Outcome State Fault Refusal := s.requestAt t (asRequest 3 r)

/-- OFF (R16). -/
def execOff (t : Nat) (r : ReqArea) (s : State) : Host.Outcome State Fault Refusal := s.requestAt t (asRequest 4 r)

/-- CLEAR (R17). -/
def execClear (t : Nat) (r : ReqArea) (s : State) : Host.Outcome State Fault Refusal := s.requestAt t (asRequest 5 r)

/-- NONE_REQUEST (R7). -/
def execNoneRequest (t : Nat) (r : ReqArea) (s : State) : Host.Outcome State Fault Refusal := s.requestAt t (asNoneRequest r)

/-- TRACE_ARM (R174). -/
def execTraceArm (t : Nat) (r : ReqArea) (s : State) : Host.Outcome State Fault Refusal :=
  s.requestAt t (asCommand cmdTraceArm r)

/-- TRACE_TRIGGER (R175). -/
def execTraceTrigger (t : Nat) (r : ReqArea) (s : State) : Host.Outcome State Fault Refusal :=
  s.requestAt t (asCommand cmdTraceTrigger r)

/-- TRACE_STOP (R176). -/
def execTraceStop (t : Nat) (r : ReqArea) (s : State) : Host.Outcome State Fault Refusal :=
  s.requestAt t (asCommand cmdTraceStop r)

/-- INTEGRITY_CLEAR (R168). -/
def execIntegrityClear (t : Nat) (r : ReqArea) (s : State) : Host.Outcome State Fault Refusal :=
  s.requestAt t (asCommand cmdIntegrityClear r)

/-- VECTOR_EVENT (R161). -/
def execVectorEvent (t : Nat) (r : ReqArea) (s : State) : Host.Outcome State Fault Refusal := s.requestAt t (asVector 0 r)

/-- VECTOR_RESET (R163). -/
def execVectorReset (t : Nat) (r : ReqArea) (s : State) : Host.Outcome State Fault Refusal := s.requestAt t (asVector 1 r)

/-- FETCH (R177). -/
def execFetch (t : Nat) (r : ReqArea) (s : State) : Host.Outcome State Fault Refusal := s.requestAt t (asFetch r)

/-- READ (R147). -/
def execRead (t : Nat) (r : ReqArea) (s : State) : Host.Outcome State Fault Refusal := s.requestAt t (asRead r)

end Sys2Proof.Machine
end

