-- ==== Sys2Proof/Machine/Ports.lean ====
section
/-! DEFINITION. The two ring ports (06, 6.1 and 6.2): link states, frames that start, return, end or are lost. -/

namespace Sys2Proof.Machine

open Sys2Proof

/-- A port. -/
def Ring.port (r : Ring) : Port → RingPort
  | .u => r.portU
  | .d => r.portD

/-- Sets a port. -/
def Ring.setPort (r : Ring) (p : Port) (x : RingPort) : Ring :=
  match p with
  | .u => { r with portU := x }
  | .d => { r with portD := x }

/-! ## Link states (R111) -/

/-- What a symbol that arrives at an instant does to a port (R111). -/
def RingPort.see (x : RingPort) (now : Nat) (sym : LineSymbol) : RingPort :=
  let y := { x with lastSymbol := now }
  match x.state with
  | .down => { y with state := .training, goodRun := 0, badRun := 0 }
  | .training =>
    if sym = .idle then
      if x.goodRun + 1 = Config.trainIdles then { y with state := .up, goodRun := x.goodRun + 1, badRun := 0 }
      else { y with goodRun := x.goodRun + 1 }
    else { y with goodRun := 0 }
  | .up =>
    if sym = .bad then
      if x.badRun + 1 = Config.badLimit then { y with state := .training, goodRun := 0, badRun := 0 }
      else { y with badRun := x.badRun + 1 }
    else { y with badRun := 0 }

/-- A bad symbol is counted in every link state (R111). -/
def RingCounts.symbolError (k : RingCounts) : Port → RingCounts
  | .u => { k with symErrU := bump k.symErrU }
  | .d => { k with symErrD := bump k.symErrD }

/-! ## The end of a frame (R112, R117, R121) -/

/-- A check spoiled: the complement of the value computed (6.4). -/
def spoil {n : Nat} (c : BitVec n) : BitVec n := ~~~ c

/-- The payload length of a frame from its first word received (R117). -/
def Frame.payload (f : Frame) : Nat := hdrPayload (f.rx.getD 0 0)

/-- The cycle number of a frame. -/
def Frame.cycle (f : Frame) : Nat := hdrCycle (f.rx.getD 0 0)

/-- How many words of the frame stand before the reply area. -/
def Frame.areaAt (f : Frame) : Nat := 13 + f.payload

/-- The whole length of the frame, n + 23 (6.4). -/
def Frame.whole (f : Frame) : Nat := f.payload + 23

/-- The words forwarded, with the last one as the frame check asks: over the words before it, kept or spoiled (R118, R121, R122). -/
def sealFrame (tx : List Word) (bad : Bool) : List Word :=
  tx.dropLast ++ [if bad then spoil (frameCrc tx.dropLast) else frameCrc tx.dropLast]

/-- The words a frame goes out with when it ends (R117, R118, R121, R122): once word F has come, the check in its place is computed
over the words before it, kept or spoiled, and the words after it are as received; a frame of undefined kind is as received. -/
def Frame.sealed (f : Frame) (bad : Bool) : List Word :=
  if f.phase = .undefinedKind ∨ f.tx.length < f.whole then f.tx
  else sealFrame (f.tx.take f.whole) bad ++ f.tx.drop f.whole

/-- The frame at Port U is over: the ring takes what is left of it, a reply not yet written is lost (log 38), and a node reset ordered by
the frame is applied (R153). -/
def State.endFrame (s : State) (rest : Ring → Ring) : State :=
  let x := (s.onRing fun r => { rest r with frame := none }).onResp fun p => { p with formed := none }
  if x.resp.resetOrdered then x.nodeReset else x

/-- The end symbol of the frame has come and goes out behind its words: what it goes out with is noted (log 40), and out of Port D it goes
on being sent for 600 ns (R113). -/
def State.closeFrame (s : State) (f : Frame) (sent : List Word) : State :=
  s.endFrame fun r =>
    { r.closeTx false s.now with
      dTail :=
        if f.lost ∨ f.path = .outU then r.dTail
        else r.dTail ++ [{ gone := s.now + Config.forwardTicks, words := sent, times := f.times }]
      forwarded := if f.lost then r.forwarded else some { path := f.path, words := sent } }

/-- The delay with which the words of the frame at Port U go out, if its forwarding has begun: its header is whole and its start symbol has
left (R112, R113). -/
def Ring.forwarding (r : Ring) (f : Frame) (now : Nat) : Option Nat :=
  if f.lost ∨ f.phase = .awaiting then none
  else match f.path with
    | .outD => if f.stamp + Config.forwardTicks ≤ now then some Config.forwardTicks else none
    | .outU => r.goingOut false

/-- The words of the frame at Port U that have left by now are noted, if its forwarding has begun (log 40); the words still in the delay
go nowhere. -/
def Ring.noteLeft (r : Ring) (f : Frame) (words : List Word) (now : Nat) : Option Forwarded :=
  match r.forwarding f now with
  | some d => some { path := f.path, words := words.take (leftBy f.times d now) }
  | none => r.forwarded

/-- The frame at Port U ends early, its header whole (R112): if its forwarding has begun, it is closed at once with an end symbol behind
the words that have left; else nothing of it goes out (log 24). -/
def State.severFrame (s : State) (f : Frame) (words : List Word) : State :=
  s.endFrame fun r => { r.withdrawTx false s.now with forwarded := r.noteLeft f words s.now }

/-- A bad frame check, or a frame that counts as having one (R121). -/
def State.damaged (s : State) (f : Frame) : State :=
  let h0 := f.rx.getD 0 0
  ((s.onRingCounts fun k => { k with checkFail := bump k.checkFail }).raise .frameDamaged
    (detail (hdrKind h0) (hdrCycle h0))).discard

/-- The frame's header was found good with a kind whose check is tested (R121). -/
def HeaderPhase.tested : HeaderPhase → Bool
  | .cycle => true
  | .reset => true
  | _ => false

/-- A taken frame ends early (R112): one whose header is not complete leaves nothing; one whose forwarding has begun is closed at once;
a good header counts as a bad frame check. -/
def State.cutFrame (s : State) : State :=
  match s.ring.frame with
  | none => s
  | some f =>
    if f.phase = .awaiting then (s.onRing fun r => { r.withdrawTx false s.now with frame := none })
    else if f.phase.tested then (s.cutWalk.damaged f).severFrame f (f.sealed true)
    else s.severFrame f (f.sealed true)

/-- The returning frame has ended (R114): it goes out as received. -/
def Ring.endBack (r : Ring) (now : Nat) : Ring :=
  match r.back with
  | none => r
  | some b =>
    if b.lost then { r with back := none }
    else { r.closeTx true now with back := none, forwarded := some { path := .outU, words := b.words } }

/-- The returning frame ends early (R112): if its forwarding has begun, it is closed at once with an end symbol behind the words that have
left; else nothing of it goes out (log 24). -/
def Ring.cutBack (r : Ring) (now : Nat) : Ring :=
  match r.back with
  | none => r
  | some b =>
    { r.withdrawTx true now with
      back := none
      forwarded := match r.goingOut true with
        | some d => some { path := .outU, words := b.words.take (leftBy b.times d now) }
        | none => r.forwarded }

/-- Port D leaves UP while ended frames are still being sent out of it (R113): the rest of each is lost and each is counted; the last of
them is noted with the words that have left by now (log 40). -/
def Ring.loseTail (r : Ring) (now : Nat) : Ring :=
  let live := r.dTail.filter fun g => decide (now < g.gone)
  { r with
    counts := r.counts.lose live.length
    dTail := []
    forwarded := match live.getLast? with
      | some g => some { path := .outD, words := g.words.take (leftBy g.times Config.forwardTicks now) }
      | none => r.forwarded }

/-- Port D leaves UP (R113): the rest of each frame still being sent out of it is lost, each counted; so is a frame whose start symbol has
arrived and not yet left, at this moment (log 24). -/
def State.loseFrame (s : State) : State :=
  let s1 := s.onRing fun r => r.loseTail s.now
  match s1.ring.frame with
  | none => s1
  | some f =>
    if f.path = .outD ∧ ¬ f.lost then
      s1.onRing fun r =>
        { r with
          counts := r.counts.lose 1
          frame := some { f with lost := true }
          forwarded := r.noteLeft f (f.sealed true) s.now }
    else s1

/-- What a port's leaving UP does to the frames being passed (R112, R113). -/
def State.portLost (s : State) : Port → State
  | .u => s.cutFrame
  | .d => s.loseFrame.onRing fun r => r.cutBack s.now

/-- A port takes a new link state: LINK_CHANGE at a change, and the end or loss of a frame when it leaves UP (R111 to R113). LINK_CHANGE
comes before the end of the frame, so a node reset that this end applies removes it (R164; log 8). -/
def State.setPort (s : State) (p : Port) (x : RingPort) : State :=
  let old := (s.ring.port p).state
  let s1 := s.onRing fun r => r.setPort p x
  if x.state = old then s1
  else
    let s2 := s1.raise .linkChange (detail (portCode p) x.state.code)
    if old = .up then s2.portLost p else s2

/-- A symbol arrives at a port now (R111). -/
def State.see (s : State) (p : Port) (sym : LineSymbol) : State :=
  let s1 := if sym = .bad then s.onRingCounts fun k => k.symbolError p else s
  s1.setPort p ((s1.ring.port p).see s1.now sym)

/-- PORT_SILENCE (R111): 2 us without a symbol at a port in TRAINING or UP. -/
def execPortSilence (p : Port) (s : State) : Host.Outcome State Fault Refusal :=
  let x := s.ring.port p
  if x.state = .down then .next s
  else .next ((s.arrive (x.lastSymbol + Config.silenceTicks)).setPort p { x with state := .down })

/-! ## Start symbols (R112 to R114) -/

/-- A start symbol at Port U in UP (R112, R113): it ends a frame still passing and begins a new one, stamped now, its path fixed. A frame
turned back will be due at Port U's transmitter; whether it is dropped there shows at that moment (R114; log 24). -/
def State.startFrame (s : State) : State :=
  let s1 := s.cutFrame.onRingCounts fun k => { k with frames := bump k.frames }
  let path := s1.ring.pathNow
  let lost := decide (path = .outD ∧ s1.ring.portD.state ≠ .up)
  let f : Frame := { stamp := s1.now, path := path, lost := lost }
  s1.onRing fun r =>
    let q := { r with frame := some f, counts := r.counts.lose (if lost then 1 else 0) }
    match path with
    | .outD => q
    | .outU => q.enqueue false s1.now

/-- A start symbol at Port D in UP (R112, R114): it ends a returning frame still passing; the new one will leave Port U, or is
discarded. -/
def State.startReturn (s : State) : State :=
  s.onRing fun r =>
    let q := r.cutBack s.now
    match q.pathNow with
    | .outU => { q with counts := { q.counts with discards := bump q.counts.discards } }
    | .outD => { q with back := some {} }.enqueue true s.now

/-- A word of a returning frame (R114). -/
def Ring.passBack (r : Ring) (w : Word) (now : Nat) : Ring :=
  { r with back := r.back.map fun b => { b with words := b.words ++ [w], times := b.times ++ [now] } }

/-- PORT_U_WAIT_END (R114): the end symbol of the frame being sent has gone, and the frame that waits starts. -/
def execPortUWaitEnd (s : State) : Host.Outcome State Fault Refusal :=
  match s.ring.uWaiting, s.ring.uSending.bind TxFrame.goneAt with
  | some _, some g => .next (s.arrive g)
  | _, _ => .next s

end Sys2Proof.Machine
end

