-- ==== Sys2Proof/Machine/Frames.lean ====
section
/-! DEFINITION. A frame as it arrives word by word (06, 6.4 to 6.7): header, payload, reply area, frame check, end; and the commands of
the frame symbols at both ports. -/

namespace Sys2Proof.Machine

open Sys2Proof

/-- Word H12 with a header check, its unused bits as received (6.4). -/
def checkWord (c : BitVec 16) (h12 : Word) : Word := c ++ BitVec.setWidth 16 h12

/-- The header check a word H12 carries. -/
def carriedCheck (h12 : Word) : BitVec 16 := BitVec.ofNat 16 (field h12 31 16)

/-- The header check found good (R118). -/
def headerGood (h : Vector Word 13) : Bool := headerCrc (h.toList.take 12) == carriedCheck h[12]

/-- A header as forwarded: its first twelve words, the check over them, kept or spoiled, and H12's unused bits (R118, R122). -/
def sealHeader (ws : List Word) (h12 : Word) (bad : Bool) : List Word :=
  ws ++ [checkWord (if bad then spoil (headerCrc ws) else headerCrc ws) h12]

/-! ## Alert lines (R120, R159, R160) -/

/-- Bit k of word H1 for line k; line 0 is not routed. -/
def lineBit (line : Nat) : Word := if line = 0 then 0 else (1 : Word) <<< line

/-- A pending class's line, read through the check bits; an uncorrectable word routes nothing (R160). -/
def State.classLine (s : State) (i : Fin 16) : Word × State :=
  let r := s.check (alertLoc i.val 1)
  (if r.1 then lineBit s.svc.events.alert[i].line else 0, r.2)

/-- The lines of several classes, read in order. -/
def State.classLines (s : State) : List (Fin 16) → Word × State
  | [] => (0, s)
  | i :: is =>
    let r := s.classLine i
    let q := r.2.classLines is
    (r.1 ||| q.1, q.2)

/-- The alert lines the event unit asserts (R159): those of the classes pending now. -/
def State.alertLines (s : State) : Word × State :=
  s.classLines ((List.finRange 16).filter fun i => s.svc.events.pending[i].isSome)

/-! ## The header (R118, R119, R123) -/

/-- The frame being passed is replaced. -/
def State.setFrame (s : State) (f : Frame) : State := s.onRing fun r => { r with frame := some f }

/-- A good CYCLE header at Port U (R119): mark, request, walk, alert lines, and the header as forwarded (R120, R122). The lines are read
only for a header that is forwarded, so not in a lost frame (R160; log 46). -/
def State.cycleHeader (s : State) (f : Frame) (h : Vector Word 13) : State :=
  let active := decide (s.ring.participation = .active)
  let f1 := { f with phase := .cycle, active := active }
  let s1 := ((s.onResp fun p => { p with formed := none }).takeMark f.stamp).request (reqOf h)
  let s2 := if active then s1.beginWalk f1.payload f1.cycle else s1
  let r := if active && !f.lost then s2.alertLines else (0, s2)
  r.2.setFrame { f1 with tx := sealHeader ((h.set 1 (h[1] ||| r.1)).toList.take 12) h[12] false }

/-- The address a RESET frame gives (R123). -/
def resetAddress (position : Nat) : BitVec 6 := if position + 1 ≤ 63 then BitVec.ofNat 6 (position + 1) else 0

/-- The position counter raised by 1, 255 staying (R123). -/
def raisePosition (h1 : Word) : Word := if hdrPosition h1 = 255 then h1 else h1 + 0x01000000

/-- A good RESET header at Port U (R123): address, ring reset, counter. -/
def State.resetHeader (s : State) (f : Frame) (h : Vector Word 13) : State :=
  let s1 := (s.onRing fun r => { r with address := resetAddress (hdrPosition h[1]) }).ringReset
  s1.setFrame { f with
    phase := .reset
    tx := sealHeader ((h.set 1 (raisePosition h[1])).toList.take 12) h[12] false }

/-- A frame of undefined kind (R117). -/
def State.undefinedHeader (s : State) (f : Frame) (h : Vector Word 13) : State :=
  (s.onRingCounts fun k => { k with undefKinds := bump k.undefKinds }).setFrame
    { f with phase := .undefinedKind, tx := h.toList }

/-- A bad header check (R118). -/
def State.badHeader (s : State) (f : Frame) (h : Vector Word 13) : State :=
  (s.onRingCounts fun k => { k with headerFail := bump k.headerFail }).setFrame
    { f with phase := .bad, tx := sealHeader (h.toList.take 12) h[12] true }

/-- The header of a frame is whole; the words that had not come one by one came now (log 5). -/
def Frame.withHeader (f : Frame) (h : Vector Word 13) (now : Nat) : Frame :=
  { f with rx := h.toList, times := f.times ++ List.replicate (13 - f.times.length) now }

/-- The header check is tested and the node acts by the kind (R118). -/
def State.takeHeader (s : State) (f : Frame) (h : Vector Word 13) : State :=
  let g := f.withHeader h s.now
  if headerGood h then
    match hdrKind h[0] with
    | 0 => s.cycleHeader g h
    | 1 => s.resetHeader g h
    | _ => s.undefinedHeader g h
  else s.badHeader g h

/-- HEADER_CHECK (R118) brings the words of the header that have not come yet (log 5). -/
def Frame.awaitsHeader (f : Frame) (header : Vector Word 13) : Bool :=
  decide (f.phase = .awaiting) && f.rx.isPrefixOf header.toList

/-! ## The words of a frame, one by one -/

/-- A frame received and forwarded one word further; a lost frame is not sent (R113). -/
def Frame.push (f : Frame) (w out : Word) (now : Nat) : Frame :=
  { f with rx := f.rx ++ [w], times := f.times ++ [now], tx := if f.lost then f.tx else f.tx ++ [out] }

/-- The next word lies in the payload of a CYCLE frame whose header found the node ACTIVE (R115). -/
def Frame.inPayload (f : Frame) : Bool :=
  decide (f.phase = .cycle) && f.active && decide (13 ≤ f.rx.length) && decide (f.rx.length < f.areaAt)

/-- A word of the header: with H12 the header check is tested (R118). -/
def State.passHeaderWord (s : State) (f : Frame) (w : Word) : State :=
  let rx := f.rx ++ [w]
  if rx.length = 13 then s.takeHeader f (Vector.ofFn fun i : Fin 13 => rx.getD i.val 0)
  else s.setFrame { f with rx := rx, times := f.times ++ [s.now] }

/-- Words Q0 to Q8 of a reply (6.4, R149); the unused bits of Q0 stay as received (log 19). -/
def replyWords (p : Reply) (q0 : Word) : List Word :=
  toWord (p.addr.toNat * 67108864 + p.tag.toNat * 262144 + p.status.code * 16384 + p.count * 1024 + field q0 9 0 : Nat) ::
    (p.data ++ List.replicate 8 0).take 8

/-- The replies that may be dropped when the reply area is occupied (R149). -/
def ReplyStatus.droppable : ReplyStatus → Bool
  | .busy => true
  | .pending => true
  | _ => false

/-- An empty reply area passes (R149, R150): the words written into it, if any, and the responder after. A formed reply that gives
way to the ready one counts as dropped (log 18). -/
def Responder.fill (p : Responder) : Option Reply × Responder :=
  match p.ready, p.formed with
  | some rep, none => (some rep, { p with ready := none, state := .idle })
  | some rep, some _ =>
    (some rep, { p with
      ready := none, state := .idle, formed := none, counts := { p.counts with dropped := bump p.counts.dropped } })
  | none, some rep => (some rep, { p with formed := none })
  | none, none => (none, p)

/-- An occupied reply area passes (R149). -/
def Responder.miss (p : Responder) : Responder :=
  match p.formed with
  | none => p
  | some rep =>
    if rep.status.droppable then { p with formed := none, counts := { p.counts with dropped := bump p.counts.dropped } }
    else { p with
      formed := none, ready := some rep, state := .holding, counts := { p.counts with deferred := bump p.counts.deferred } }

/-- The reply area of a frame begins with Q0 (R149, R150): the words written into it, none where it passes as received; only a CYCLE
frame's area takes a reply. That a lost frame's area (R113) takes the reply too, which is then gone, is the model's choice (log 46). -/
def State.openArea (s : State) (f : Frame) (q0 : Word) : List Word × State :=
  if f.phase ≠ .cycle then ([], s)
  else if replyAddress q0 = 0 then
    match s.resp.fill.1 with
    | some rep => (replyWords rep q0, s.onResp fun p => p.fill.2)
    | none => ([], s)
  else ([], s.onResp Responder.miss)

/-- The next word of a frame at Port U passes by its place (R117): a header word is held, a payload word of a CYCLE frame passes the
walker, the reply area takes the reply's words, and any other word passes as received. -/
def State.passWord (s : State) (w : Word) : State :=
  match s.ring.frame with
  | none => s
  | some f =>
    if f.phase = .awaiting then s.passHeaderWord f w
    else if f.inPayload then
      let r := s.passWalker f.payload f.cycle (f.rx.length - 13) mapEntries w
      r.2.setFrame (f.push w r.1 s.now)
    else if f.rx.length = f.areaAt then
      let r := s.openArea f w
      r.2.setFrame ({ f with area := r.1.drop 1 }.push w (r.1.headD w) s.now)
    else s.setFrame ({ f with area := f.area.drop 1 }.push w (f.area.headD w) s.now)

/-! ## The frame check and the end of the frame (R117, R118, R121) -/

/-- The frame check found good (R121): F equals the check over the words before it. -/
def Frame.checkGood (f : Frame) : Bool := decide (f.rx.getLast? = some (frameCrc f.rx.dropLast))

/-- The end symbol of the frame at Port U has arrived (R117, R118, R121, R122). Before the header is whole its words go out as they came
(R117). A good header of kind CYCLE or RESET has its frame check tested: it is good if the end symbol follows word F directly and F
equals the check. A walk still in progress at the end symbol of a length fault ends with CUT: the model's reading, R137 naming only the
early ends of R112 (log 50). -/
def State.finishFrame (s : State) (order : List Chan) : State :=
  match s.ring.frame with
  | none => s
  | some f =>
    if f.phase = .awaiting then s.closeFrame f f.rx
    else if f.phase.tested then
      if f.rx.length = f.whole then
        if f.checkGood then (s.commit order).closeFrame f (f.sealed false) else (s.damaged f).closeFrame f (f.sealed true)
      else (s.cutWalk.damaged f).closeFrame f (f.sealed true)
    else s.closeFrame f (f.sealed true)

/-! ## The commands of the frame symbols (R111 to R122; log 33) -/

/-- What a symbol of a frame does to the frames after the port has seen it (R112 to R122). -/
def State.frameSymbol (s : State) (p : Port) (sym : LineSymbol) (order : List Chan) : State :=
  match p, sym with
  | .u, .frameStart => if s.ring.portU.state = .up then s.startFrame else s
  | .d, .frameStart => if s.ring.portD.state = .up then s.startReturn else s
  | .u, .frameWord w => s.passWord w
  | .d, .frameWord w => s.onRing fun r => r.passBack w s.now
  | .u, .frameEnd => s.finishFrame order
  | .d, .frameEnd => s.onRing fun r => r.endBack s.now
  | _, .idle => s
  | _, .bad => s

/-- Several words of a frame reach a port. -/
def State.frameWords (s : State) (p : Port) (ws : List Word) : State := ws.foldl (fun x w => x.frameSymbol p (.frameWord w) []) s

/-- Symbols of a frame reach a port at an instant: decoded symbols, of which none is an idle (R111). -/
def State.hear (s : State) (t : Nat) (p : Port) : State := (s.arrive t).see p .frameEnd

/-- PORT_SYMBOL (R111). -/
def execPortSymbol (t : Nat) (p : Port) (sym : LineSymbol) (s : State) : Host.Outcome State Fault Refusal :=
  .next (((s.arrive t).see p sym).frameSymbol p sym [])

/-- FRAME_START (R112, R113): a start symbol at Port U. -/
def execFrameStart (t : Nat) (s : State) : Host.Outcome State Fault Refusal := .next ((s.hear t .u).frameSymbol .u .frameStart [])

/-- RETURN_FRAME (R112, R114): a start symbol at Port D, and the first words after it. -/
def execReturnFrame (t : Nat) (words : List Word) (s : State) : Host.Outcome State Fault Refusal :=
  .next (((s.hear t .d).frameSymbol .d .frameStart []).frameWords .d words)

/-- HEADER_CHECK (R118): word H12 has arrived, and with it whatever of the header had not come one by one. -/
def execHeaderCheck (t : Nat) (header : Vector Word 13) (s : State) : Host.Outcome State Fault Refusal :=
  match s.ring.frame with
  | some f =>
    if f.awaitsHeader header then
      let s1 := s.hear t .u
      .next (match s1.ring.frame with
        | some g => s1.takeHeader g header
        | none => s1)
    else .next s
  | none => .next s

/-- WALK_ENTRY (R130): payload words arrive; they must lie within the payload (log 5). -/
def execWalkEntry (t : Nat) (words : List Word) (s : State) : Host.Outcome State Fault Refusal :=
  match s.ring.frame with
  | some f =>
    if f.phase ≠ .awaiting ∧ f.rx.length + words.length ≤ f.areaAt then .next ((s.hear t .u).frameWords .u words) else .next s
  | none => .next s

/-- REPLY_AREA (R149): words Q0 to Q8 arrive where the header says they lie (log 5). -/
def execReplyArea (t : Nat) (area : Vector Word 9) (s : State) : Host.Outcome State Fault Refusal :=
  match s.ring.frame with
  | some f =>
    if f.phase ≠ .awaiting ∧ f.rx.length = f.areaAt then .next ((s.hear t .u).frameWords .u area.toList) else .next s
  | none => .next s

/-- FRAME_CHECK (R121): word F arrives where the header says it lies; the frame ends with it if the end symbol follows (log 6). -/
def execFrameCheck (t : Nat) (f : Word) (closed : Bool) (order : List Chan) (s : State) : Host.Outcome State Fault Refusal :=
  match s.ring.frame with
  | some fr =>
    if fr.phase ≠ .awaiting ∧ fr.rx.length + 1 = fr.whole then
      let s1 := (s.hear t .u).frameSymbol .u (.frameWord f) order
      .next (if closed then s1.frameSymbol .u .frameEnd order else s1)
    else .next s
  | none => .next s

/-- END_SYMBOL (R117): the words before it pass, and the frame at Port U ends. -/
def execEndSymbol (t : Nat) (words : List Word) (order : List Chan) (s : State) : Host.Outcome State Fault Refusal :=
  .next (((s.hear t .u).frameWords .u words).frameSymbol .u .frameEnd order)

end Sys2Proof.Machine
end

