-- ==== Sys2Proof/Machine/Jobs.lean ====
section
/-! DEFINITION. Period events, report windows, stage reports, the job queue and the job in service (03, 3.4 to 3.6; 04, 4.3). -/

namespace Sys2Proof.Machine

open Sys2Proof

/-! ## The degraded run count (R20) -/

/-- The degraded-period limit and the degraded run count, read through the check bits, an uncorrectable word as 0 (R20, R166). -/
def State.readDegraded (s : State) (c : Chan) : (Nat × Nat) × State :=
  let r := s.checkEach [chanLoc c 31, chanLoc c 52]
  ((if r.1.getD 0 true then (s.rcd c).tuning.degradedLimit else 0, if r.1.getD 1 true then (s.status c).degradedRun else 0), r.2)

/-- A rise of the degraded run count to `n` that takes it above the limit gives PERIOD_LOSS (R20), `old` being the state the channel is
known to be in. -/
def State.testDegraded (s : State) (c : Chan) (n limit : Nat) (old : ChanState) (atOnce : Bool) : State :=
  if n > limit then s.immediateFault c .periodLoss (some old) atOnce else s

/-- A job of a RUNNING or STOPPING channel abandoned or dropped (R20): the count rises, and above the limit the channel takes
PERIOD_LOSS. -/
def State.degraded (s : State) (c : Chan) (atOnce : Bool) : State :=
  let q := s.readState c
  if q.1.gatesOn then
    let r := q.2.readDegraded c
    let n := bumpRun r.1.2
    (r.2.storeStatus c [52] fun x => { x with degradedRun := n }).testDegraded c n r.1.1 q.1 atOnce
  else q.2

/-! ## The start of service (R18, R28, R29, R72) -/

/-- The leader's applied iq* that the job of a RUNNING follower of a valid pair reads (R29), through the check bits: an uncorrectable
one is taken as 0 (log 43). The jobs of a leader read nothing of the follower (R23). -/
def State.leaderIq (s : State) (c : Chan) : Option Int × State :=
  let r := s.readPair c fun x => decide (x = .follower)
  match r.1.role, r.1.partner with
  | .follower, some q =>
    let x := r.2.check (chanLoc q 57)
    (some (orZero x.1 (s.status q).fb.iqRef), x.2)
  | _, _ => (none, r.2)

/-- The kind of a job (R28). -/
def jobKind (st : ChanState) (rep : Option StageReport) : JobKind :=
  if st.gatesOn then (if rep.isSome then .normal else .blind) else .measurement

/-- The angle-invalid run count a job's angle check looks at (R18, R32, R33, R56). -/
def checkedAngleRun (run : Nat) : Option StageReport → Nat
  | some p => angleRunAfter run p.angleValid
  | none => run

/-- A job enters service with the picture of its channel as it stands (R29, R73); a job that computes has the leader's iq* in it if
its channel is RUNNING. -/
def State.serve (s : State) (j : Job) (st : ChanState) (blocked : Bool) : State :=
  let q := if st = .running ∧ ¬ blocked then s.leaderIq j.chan else (none, s)
  let v : Service :=
    { job := j
      kind := jobKind st j.report
      state0 := st
      blocked := blocked
      left := false
      rearmed := false
      startedAt := s.now
      record := s.rcd j.chan
      hid := s.hid j.chan
      leaderIq := q.1 }
  { q.2 with cu := { q.2.cu with service := some v } }

/-- The fault checks after record integrity, and what they do (R18, R19, R28). -/
def State.faultChecks (s : State) (j : Job) : State :=
  let c := j.chan
  let st := (s.status c).state
  if st.gatesOn then
    let run := checkedAngleRun (s.status c).angleRun j.report
    match runningFault (s.rcd c) j.report run with
    | .none => s.serve j st false
    | .overtemp => (s.rampFault c .overtemp st).serve j .stopping false
    | code => (s.immediateFault c code (some st) true).serve j st true
  else if st = .ready ∧ (j.report.elim false fun p => p.wasReset) then
    (s.immediateFault c .stageReset (some .ready) true).serve j .ready false
  else s.serve j st false

/-- A job begins service (R18, R28): the whole record is read through the check bits first; an uncorrectable word gives the fault
INTEGRITY, and the job computes nothing. A channel read to be FAULTED keeps its code (R18); a state word that is itself uncorrectable
shows no state, and the state and the code that the fault stores are fresh (R166; log 11). -/
def State.startJob (s : State) (j : Job) : State :=
  let r := s.checkEach (recordLocs j.chan)
  let known := r.1.getD 35 true
  let st := takenState known (s.status j.chan).state
  if r.1.all id then r.2.faultChecks j
  else if known ∧ st = .faulted then r.2.serve j st true
  else (r.2.immediateFault j.chan .integrity (if known then some st else none) true).serve j st true

/-- A job that cannot finish by its deadline is abandoned (R72). -/
def State.abandon (s : State) (j : Job) : State :=
  ((s.raise .jobLate (detail j.chan.val 1)).onCounts j.chan fun k => { k with abandoned := bump k.abandoned }).degraded
    j.chan true

/-- The free unit takes heads of the queue until one enters service (R72); `n` bounds the heads taken. -/
def State.takeHeads : Nat → State → State
  | 0, s => s
  | n + 1, s =>
    match s.cu.service, s.cu.queue with
    | none, j :: rest =>
      let s1 := { s with cu := { s.cu with queue := rest } }
      if s.now + Config.jobTicks > j.deadline then (s1.abandon j).takeHeads n else s1.startJob j
    | _, _ => s

/-- The unit acts by R72. -/
def State.dispatchJobs (s : State) : State := s.takeHeads s.cu.queue.length

/-- An overrun (R71): the older job of the channel is dropped. -/
def State.overrun (s : State) (c : Chan) : State :=
  if s.cu.queue.any (fun j => decide (j.chan = c)) then
    ((({ s with cu := { s.cu with queue := s.cu.queue.filter fun j => decide (j.chan ≠ c) } }).raise .jobLate
      (detail c.val 0)).onCounts c fun k => { k with overrun := bump k.overrun }).degraded c true
  else s

/-- A job is created (R71): an older one of its channel is dropped, it joins the tail, and a free unit takes it (R72). -/
def State.createJob (s : State) (j : Job) : State :=
  let s1 := s.overrun j.chan
  ({ s1 with cu := { s1.cu with queue := s1.cu.queue ++ [j] } }).dispatchJobs

/-- The job a window creates (R70). -/
def Window.job (w : Window) (c : Chan) (rep : Option StageReport) : Job :=
  { chan := c, period := w.period, j := w.j, time := w.time, deadline := w.deadline, report := rep }

/-! ## Windows and reports (R70, R81 to R84) -/

/-- Causes of SAMPLE_MISS (R82). -/
inductive MissCause where
  | window
  | parity
  | echo
  deriving DecidableEq, Repr

/-- The codes of the causes (9.1). -/
def MissCause.code : MissCause → Nat
  | .window => 0
  | .parity => 1
  | .echo => 2

/-- The counter of a cause (R82, R94). -/
def LinkCounts.miss (k : LinkCounts) : MissCause → LinkCounts
  | .window => { k with missWindow := bump k.missWindow }
  | .parity => { k with missParity := bump k.missParity }
  | .echo => { k with missEcho := bump k.missEcho }

/-- A window ends without a valid report (R82). -/
def State.sampleMiss (s : State) (c : Chan) (m : MissCause) : State :=
  (s.onLinkCounts c fun k => k.miss m).raise .sampleMiss (detail c.val m.code)

/-- An open window expires (R70): a job without a report. -/
def State.expireWindow (s : State) (c : Chan) (w : Window) : State :=
  ((s.onLink c fun l => { l with window := none }).sampleMiss c .window).createJob (w.job c none)

/-- What a report taken with good parity is used for (R84). -/
def State.useReport (s : State) (c : Chan) (r : StageReport) : State :=
  let s1 := s.onLink c fun l => { l with note := r.wasReset }
  match r.reply with
  | some rp => s1.passReply c rp
  | none => s1

/-- A report with bad parity (R94). -/
def State.parityError (s : State) (c : Chan) : State :=
  s.onLinkCounts c fun k => { k with parity := bump k.parity }

/-- The report passes the sample path: the parity injection inverts its parity once (R170). The answer says the parity is good. -/
def State.crossPath (s : State) (c : Chan) (pathGood : Bool) : Bool × State :=
  let hit := s.svc.integ.parity[c]
  (pathGood != hit,
    { s with svc := { s.svc with integ := { s.svc.integ with parity := s.svc.integ.parity.set c false } } })

/-- A report closes an open window (R81, R82, R84). -/
def State.closeWindow (s : State) (c : Chan) (w : Window) (parityGood : Bool) (r : StageReport) : State :=
  let waived := (s.link c).waiver
  let s1 := s.onLink c fun l => { l with window := none, waiver := false }
  if ¬ parityGood then ((s1.parityError c).sampleMiss c .parity).createJob (w.job c none)
  else
    let s2 := s1.useReport c r
    if waived ∨ r.echo = w.expected then
      (s2.onLink c fun l => { l with report := some r }).createJob (w.job c (some r))
    else (s2.sampleMiss c .echo).createJob (w.job c none)

/-- A report with a good line check is routed (R81, R83). -/
def State.routeReport (s : State) (c : Chan) (parityGood : Bool) (r : StageReport) : State :=
  match (s.link c).window with
  | some w => s.closeWindow c w parityGood r
  | none =>
    let s1 := if (s.link c).lastSync = .period then s.onLinkCounts c fun k => { k with late := bump k.late } else s
    if parityGood then s1.useReport c r else s1.parityError c

/-- STAGE_REPORT (R81): a report's last symbol arrives. -/
def execStageReport (t : Nat) (c : Chan) (lineGood pathGood : Bool) (r : StageReport) (s : State) :
    Host.Outcome State Fault Refusal :=
  let s1 := (s.advance t).onLink c fun l => l.symbol (max s.now t)
  if lineGood then .next ((s1.crossPath c pathGood).2.routeReport c (s1.crossPath c pathGood).1 r)
  else .next (s1.onLinkCounts c fun k => { k with damaged := bump k.damaged })

/-- REPORT_WINDOW_EXPIRY (R70): the open window of a channel runs out. -/
def execReportWindowExpiry (c : Chan) (s : State) : Host.Outcome State Fault Refusal :=
  match (s.link c).window with
  | none => .next s
  | some w => .next ((s.advance (w.time + (s.hid c).effWindow)).expireWindow c w)

/-! ## Period events (R69, R70, R11, R12, R22) -/

/-- The sync symbol of a period event and the window it opens (R70, R81). -/
def State.openWindow (s : State) (c : Chan) (e : PeriodEvent) : State :=
  let h := s.hid c
  (s.onHid c fun x => { x with periodCount := x.periodCount + 1 }).onLink c fun l =>
    { l with
      lastSync := .period
      window := some
        { period := h.periodCount
          j := e.j
          time := e.time
          deadline := e.time + h.effDeadline
          expected := l.sentSeq } }

/-- The stop time limit, read through the check bits, an uncorrectable one as 0 (R166). -/
def State.readStopLimit (s : State) (c : Chan) : Int × State :=
  let r := s.check (chanLoc c 28)
  (orZero r.1 (s.rcd c).tuning.stopLimit, r.2)

/-- What a period event counts in CALIBRATING and in STOPPING (R11, R12, R22). The state is read through the check bits: an uncorrectable
one counts as FAULTED, so nothing is counted and nothing ends (R166; log 11). -/
def State.countPeriod (s : State) (c : Chan) : State :=
  let r := s.readState c
  match r.1 with
  | .calibrating =>
    let n := (s.hid c).calPeriods + 1
    let s1 := r.2.onHid c fun h => { h with calPeriods := n }
    if n = Config.calLimit then s1.calibrationFault c else s1
  | .stopping =>
    let n := (s.hid c).stopPeriods + 1
    let q := r.2.readStopLimit c
    let s1 := q.2.onHid c fun h => { h with stopPeriods := n }
    if (n : Int) ≥ q.1 then (s1.endStop c).gateOff c else s1
  | _ => r.2

/-- A period event opens its window (R69, R70); a window still open expires first, and the event is counted after both (log 8). -/
def State.openEvent (s : State) (c : Chan) (e : PeriodEvent) : State :=
  let s1 := (s.advance e.time).onHid c fun h => { h with events := h.events.drop 1 }
  let s2 := match (s1.link c).window with
    | some w => s1.expireWindow c w
    | none => s1
  s2.openWindow c e

/-- A period event falls (R69). -/
def State.fallEvent (s : State) (c : Chan) (e : PeriodEvent) : State := (s.openEvent c e).countPeriod c

/-- The period event counted now ends a calibration as the 257th since ARM (R12). -/
def State.calibrationEnds (s : State) (c : Chan) : Bool :=
  decide ((s.readState c).1 = .calibrating ∧ (s.hid c).calPeriods + 1 = Config.calLimit)

/-- The period event counted now ends a stop by the stop time limit (R22). -/
def State.stopEnds (s : State) (c : Chan) : Bool :=
  decide ((s.readState c).1 = .stopping ∧ (((s.hid c).stopPeriods + 1 : Nat) : Int) ≥ (s.readStopLimit c).1)

/-- PERIOD_EVENT (R69): the next period event of the channel falls. -/
def execPeriodEvent (c : Chan) (s : State) : Host.Outcome State Fault Refusal :=
  match (s.hid c).events with
  | e :: _ => .next (s.fallEvent c e)
  | [] => .next s

/-- CALIBRATION_TIMEOUT (R12): the period event that is the 257th since ARM, the channel still CALIBRATING (log 4). -/
def execCalibrationTimeout (c : Chan) (s : State) : Host.Outcome State Fault Refusal :=
  match (s.hid c).events with
  | e :: _ =>
    if (s.openEvent c e).calibrationEnds c then .next (s.fallEvent c e) else .next s
  | [] => .next s

/-- STOP_TIME_LIMIT (R22): the period event at which the stop period count reaches the stop time limit (log 4). -/
def execStopTimeLimit (c : Chan) (s : State) : Host.Outcome State Fault Refusal :=
  match (s.hid c).events with
  | e :: _ =>
    if (s.openEvent c e).stopEnds c then .next (s.fallEvent c e) else .next s
  | [] => .next s

/-! ## Completion (R30, R55 to R58, R73) -/

/-- The angle history after a job (R32, R73). -/
def Hidden.history (h : Hidden) (theta : Nat) (omega : Int) (period : Nat) : Hidden :=
  { h with thetaPrev := theta, omega := omega, histPeriod := period, firstJob := false }

/-- The record words a normal job stores (R55). -/
def normalWords : List Nat := [47, 48, 49, 52, 53, 54, 55, 56, 57, 58, 59, 60, 61, 62, 63, 64, 65, 66, 67]

/-- The stop is done at the completion of a normal job of the stop (R22): both ramp values 0 and the measured iq within the zero
threshold; threshold and state are read through the check bits, and a bad state ends nothing (R166). -/
def State.rampDone (s : State) (c : Chan) (v : Service) (n : NormalResult) : Bool × State :=
  if v.state0 = .stopping ∧ n.rampQ = 0 ∧ n.rampD = 0 then
    let r := s.checkEach [chanLoc c 29, chanLoc c 35]
    (decide ((n.fb.iq.natAbs : Int) ≤ orZero (r.1.getD 0 true) (s.rcd c).tuning.zeroThreshold ∧
      takenState (r.1.getD 1 true) (s.status c).state = .stopping), r.2)
  else (false, s)

/-- The completion of a normal job (R55, R22): its words and hidden items are stored, a stop may end, and its record is sent. Its channel
has stayed in RUNNING and STOPPING since the job began, so the gates are enabled unless the stop ends here (R5); beside a state word that
the stop test finds uncorrectable too, which is the model's choice (log 52). -/
def State.finishNormal (s : State) (v : Service) (rep : StageReport) : State :=
  let c := v.job.chan
  let n := normalJob v.record v.hid (decide (v.state0 = .stopping)) v.job.period v.job.j v.leaderIq rep
  let s1 := s.storeStatus c normalWords fun x =>
    { x with accD := n.accD, accQ := n.accQ, idFw := n.idFw, degradedRun := 0, angleRun := n.angleRun, fb := n.fb }
  let s2 := s1.onHid c fun h =>
    let h1 := h.history n.fb.theta n.fb.omega v.job.period
    { h1 with
      usedIdFw := v.record.status.idFw
      rampQ := if v.state0 = .stopping then n.rampQ else h.rampQ
      rampD := if v.state0 = .stopping then n.rampD else h.rampD
      rampsSet := if v.state0 = .stopping then true else h.rampsSet }
  let r := s2.rampDone c v n
  let s3 := if r.1 then r.2.endStop c else r.2
  s3.handRecord c (.job n.fb.cmp !r.1)

/-- The completion of a blind job (R56, R20), its channel having stayed in RUNNING and STOPPING since the job began: its record carries
the gates enabled unless the job makes the channel FAULTED (R5). The state word is not read for it (log 52). -/
def State.finishBlind (s : State) (v : Service) : State :=
  let c := v.job.chan
  let b := blindJob v.record v.hid v.job.period
  let r := s.readDegraded c
  let n := bumpRun r.1.2
  let s1 := r.2.storeStatus c [52, 61, 62, 64, 65, 66] fun x =>
    { x with degradedRun := n, fb := { x.fb with theta := b.theta, omega := b.omega, cmp := b.cmp } }
  let s2 := (s1.onHid c fun h => h.history b.theta b.omega v.job.period).testDegraded c n r.1.1 .running false
  s2.handRecord c (.job b.cmp (decide (n ≤ r.1.1)))

/-- The record words a measurement job stores (R57). -/
def measureWords (valid : Bool) : List Nat :=
  if valid then [54, 55, 56, 57, 58, 59, 60, 61, 62, 63, 64, 65, 66, 67] else [56, 57, 58, 59, 61, 62, 63, 64, 65, 66, 67]

/-- The offset words are within the offset limit (R12): the channel enters READY, or FAULTED with the code CALIBRATION. Limit and state
are read through the check bits, and a bad state ends nothing (R166). -/
def State.endCalibration (s : State) (c : Chan) : State :=
  let r := s.checkEach [chanLoc c 8, chanLoc c 35]
  let lim := orZero (r.1.getD 0 true) (s.rcd c).setup.offsetLimit
  let x := s.status c
  if ¬ r.1.getD 1 true then r.2
  else if (x.offA.natAbs : Int) ≤ lim ∧ (x.offB.natAbs : Int) ≤ lim ∧ (x.offC.natAbs : Int) ≤ lim then
    r.2.enterState c .ready [35] id
  else r.2.calibrationFault c

/-- A calibration sample is added to the sums (R11). -/
def Hidden.sample (h : Hidden) (rep : StageReport) : Hidden :=
  { h with
    sumA := h.sumA + rep.ia.toInt
    sumB := h.sumB + rep.ib.toInt
    sumC := h.sumC + rep.ic.toInt
    calSamples := h.calSamples + 1 }

/-- The report of a measurement job that adds a calibration sample (R11, R6): a valid one with was-reset clear, the channel having
stayed in CALIBRATING since the job began. -/
def Service.sample (v : Service) : Option StageReport :=
  if v.state0 = .calibrating ∧ ¬ v.left then v.job.report.filter fun p => !p.wasReset else none

/-- The offsets of a calibration from its sums (R58). -/
def Status.offsets (x : Status) (h : Hidden) : Status :=
  { x with offA := calOffset h.sumA, offB := calOffset h.sumB, offC := calOffset h.sumC }

/-- The completion of a measurement job (R57, R11, R6): its feedback words, with the offset words if it brings the 64th sample (R12,
R58), are one store; then its record, and after it the end of the calibration (log 8). A job that began before an ARM leaves the angle
history that the ARM set (R10, R33; log 35). -/
def State.finishMeasure (s : State) (v : Service) : State :=
  let c := v.job.chan
  let m := measurementJob v.record v.hid v.job.period v.job.report (s.status c).fb
  let h0 := v.sample.elim (s.hid c) (s.hid c).sample
  let h := if v.rearmed then h0 else h0.history m.theta m.omega v.job.period
  let last := v.sample.isSome && decide (h.calSamples = Config.calSamples)
  let ws := measureWords v.job.report.isSome
  let s1 := s.storeStatus c (if last then [38, 39, 40] ++ ws else ws) fun x =>
    if last then { x.offsets h with fb := m } else { x with fb := m }
  let s2 := (s1.onHid c fun _ => h).handRecord c (.job m.cmp false)
  if last then s2.endCalibration c else s2

/-- What a job delivers at its completion (R6, R28, R30): nothing when a check stopped it, or when its channel has left RUNNING
and STOPPING since a normal or blind job began. -/
def State.deliver (s : State) (v : Service) : State :=
  if v.blocked then s
  else match v.kind, v.job.report with
    | .normal, some rep => if v.left then s else s.finishNormal v rep
    | .normal, none => s
    | .blind, _ => if v.left then s else s.finishBlind v
    | .measurement, _ => s.finishMeasure v

/-- The held exchange writes are applied in the order they were taken (R1, R73). -/
def State.applyHeld (s : State) (c : Chan) : State :=
  ((s.chan c).held.foldl (fun x ps => x.applyWrite c ps) s).onChan c fun x => { x with held := [] }

/-- The completion of the job in service (R73): results, capture, held writes, counter; the unit is then free and acts by R72. An event
trigger that the results raise is taken before the capture (R175; log 8). -/
def State.completeJob (s : State) (v : Service) : State :=
  let c := v.job.chan
  let s1 := ((s.deliver v).captureFor c).applyHeld c
  let s2 := s1.onCounts c fun k => { k with completed := bump k.completed }
  ({ s2 with cu := { s2.cu with service := none } }).dispatchJobs

/-- JOB_COMPLETE (R73): 150 ticks after the start of service. -/
def execJobComplete (s : State) : Host.Outcome State Fault Refusal :=
  match s.cu.service with
  | none => .next s
  | some v => .next ((s.advance (v.startedAt + Config.jobTicks)).completeJob v)

end Sys2Proof.Machine
end

