-- ==== Sys2Proof/Machine/Dispatch.lean ====
section
/-! DEFINITION. What each command does, one arm per constructor. -/

namespace Sys2Proof.Machine

open Sys2Proof

/-- The effect of a command on everything but the queue. -/
def exec (i : Instr) (s : State) : Host.Outcome State Fault Refusal :=
  match i with
  | .powerOn => Sys2Proof.Machine.execPowerOn s
  | .portSymbol t p sym => Sys2Proof.Machine.execPortSymbol t p sym s
  | .portSilence p => Sys2Proof.Machine.execPortSilence p s
  | .frameStart t => Sys2Proof.Machine.execFrameStart t s
  | .returnFrame t words => Sys2Proof.Machine.execReturnFrame t words s
  | .portUWaitEnd => Sys2Proof.Machine.execPortUWaitEnd s
  | .headerCheck t header => Sys2Proof.Machine.execHeaderCheck t header s
  | .walkEntry t words => Sys2Proof.Machine.execWalkEntry t words s
  | .replyArea t area => Sys2Proof.Machine.execReplyArea t area s
  | .frameCheck t f closed order => Sys2Proof.Machine.execFrameCheck t f closed order s
  | .cycleBoundary order => Sys2Proof.Machine.execCycleBoundary order s
  | .holdoverTimeout order => Sys2Proof.Machine.execHoldoverTimeout order s
  | .periodEvent c => Sys2Proof.Machine.execPeriodEvent c s
  | .calibrationTimeout c => Sys2Proof.Machine.execCalibrationTimeout c s
  | .stopTimeLimit c => Sys2Proof.Machine.execStopTimeLimit c s
  | .reportWindowExpiry c => Sys2Proof.Machine.execReportWindowExpiry c s
  | .stageReport t c lineGood pathGood r => Sys2Proof.Machine.execStageReport t c lineGood pathGood r s
  | .jobComplete => Sys2Proof.Machine.execJobComplete s
  | .stageSymbol t c => Sys2Proof.Machine.execStageSymbol t c s
  | .stageSilence c => Sys2Proof.Machine.execStageSilence c s
  | .stageRecordSent c => Sys2Proof.Machine.execStageRecordSent c s
  | .passThroughTimeout c => Sys2Proof.Machine.execPassThroughTimeout c s
  | .settlingEnd c => Sys2Proof.Machine.execSettlingEnd c s
  | .write t r => Sys2Proof.Machine.execWrite t r s
  | .channelWrite t r => Sys2Proof.Machine.execChannelWrite t r s
  | .timebaseWrite t r => Sys2Proof.Machine.execTimebaseWrite t r s
  | .shareWrite t r => Sys2Proof.Machine.execShareWrite t r s
  | .nodeWrite t r => Sys2Proof.Machine.execNodeWrite t r s
  | .mapWrite t r => Sys2Proof.Machine.execMapWrite t r s
  | .mapControlWrite t r => Sys2Proof.Machine.execMapControlWrite t r s
  | .alertWrite t r => Sys2Proof.Machine.execAlertWrite t r s
  | .integrityWrite t r => Sys2Proof.Machine.execIntegrityWrite t r s
  | .traceWrite t r => Sys2Proof.Machine.execTraceWrite t r s
  | .stageRead t r => Sys2Proof.Machine.execStageRead t r s
  | .stageWrite t r => Sys2Proof.Machine.execStageWrite t r s
  | .clearEvents t r => Sys2Proof.Machine.execClearEvents t r s
  | .clearCounters t r => Sys2Proof.Machine.execClearCounters t r s
  | .nodeReset t r => Sys2Proof.Machine.execNodeReset t r s
  | .mapEnable t r => Sys2Proof.Machine.execMapEnable t r s
  | .mapDisable t r => Sys2Proof.Machine.execMapDisable t r s
  | .syncClear t r => Sys2Proof.Machine.execSyncClear t r s
  | .stageReset t r => Sys2Proof.Machine.execStageReset t r s
  | .arm t r => Sys2Proof.Machine.execArm t r s
  | .run t r => Sys2Proof.Machine.execRun t r s
  | .halt t r => Sys2Proof.Machine.execHalt t r s
  | .off t r => Sys2Proof.Machine.execOff t r s
  | .clear t r => Sys2Proof.Machine.execClear t r s
  | .noneRequest t r => Sys2Proof.Machine.execNoneRequest t r s
  | .traceArm t r => Sys2Proof.Machine.execTraceArm t r s
  | .traceTrigger t r => Sys2Proof.Machine.execTraceTrigger t r s
  | .traceStop t r => Sys2Proof.Machine.execTraceStop t r s
  | .integrityClear t r => Sys2Proof.Machine.execIntegrityClear t r s
  | .vectorEvent t r => Sys2Proof.Machine.execVectorEvent t r s
  | .vectorReset t r => Sys2Proof.Machine.execVectorReset t r s
  | .fetch t r => Sys2Proof.Machine.execFetch t r s
  | .read t r => Sys2Proof.Machine.execRead t r s
  | .endSymbol t words order => Sys2Proof.Machine.execEndSymbol t words order s

end Sys2Proof.Machine
end

