-- ==== Sys2Proof/WellFormed.lean ====
section
/-! DEFINITION. Which command terms a sender may put in the queue: an exchange row carries a request area of its own row, and an
order names no channel twice. -/

namespace Sys2Proof

open Sys2Proof.Machine

/-- The exchange tables with a write rule of their own (R148), and STAGE: their WRITEs have rows of their own. -/
def ownWriteRow (table : Nat) : Bool := decide (table ≤ tableTrace) || decide (table = tableStage)

/-- A command area of a code (R153). -/
def isCommand (code : Nat) (r : ReqArea) : Bool := decide (r.kind = kindCommand ∧ r.word.toNat = code)

/-- A WRITE to a table. -/
def isWriteTo (table : Nat) (r : ReqArea) : Bool := decide (r.kind = kindWrite ∧ r.table.toNat = table)

/-- A CHANNEL_REQUEST of a request code (R7, R153). -/
def isRequest (code : Nat) (r : ReqArea) : Bool :=
  isCommand cmdChannelRequest r && decide ((requestNibble r).toNat = code)

/-- A command term is well formed. The words of a whole frame are at most n + 23 with n at most 512 (6.4), but a faulty frame may
bring any number (R117). -/
def WellFormed (i : Instr) : Bool :=
  match i with
  | .powerOn => true
  | .portSymbol _ _ _ => true
  | .portSilence _ => true
  | .frameStart _ => true
  | .returnFrame _ _ => true
  | .portUWaitEnd => true
  | .headerCheck _ _ => true
  | .walkEntry _ _ => true
  | .replyArea _ _ => true
  | .frameCheck _ _ _ order => decide order.Nodup
  | .cycleBoundary order => decide order.Nodup
  | .holdoverTimeout order => decide order.Nodup
  | .periodEvent _ => true
  | .calibrationTimeout _ => true
  | .stopTimeLimit _ => true
  | .reportWindowExpiry _ => true
  | .stageReport _ _ _ _ _ => true
  | .jobComplete => true
  | .stageSymbol _ _ => true
  | .stageSilence _ => true
  | .stageRecordSent _ => true
  | .passThroughTimeout _ => true
  | .settlingEnd _ => true
  | .write _ r => decide (r.kind = kindWrite) && !ownWriteRow r.table.toNat
  | .channelWrite _ r => isWriteTo tableChannel r
  | .timebaseWrite _ r => isWriteTo tableTimebase r
  | .shareWrite _ r => isWriteTo tableShare r
  | .nodeWrite _ r => isWriteTo tableNode r
  | .mapWrite _ r => isWriteTo tableMap r
  | .mapControlWrite _ r => isWriteTo tableMapControl r
  | .alertWrite _ r => isWriteTo tableAlert r
  | .integrityWrite _ r => isWriteTo tableIntegrity r
  | .traceWrite _ r => isWriteTo tableTrace r
  | .stageRead _ r => decide (r.kind = kindRead ∧ r.table.toNat = tableStage)
  | .stageWrite _ r => isWriteTo tableStage r
  | .clearEvents _ r => isCommand cmdClearEvents r
  | .clearCounters _ r => isCommand cmdClearCounters r
  | .nodeReset _ r => isCommand cmdNodeReset r
  | .mapEnable _ r => isCommand cmdMapEnable r
  | .mapDisable _ r => isCommand cmdMapDisable r
  | .syncClear _ r => isCommand cmdSyncClear r
  | .stageReset _ r => isCommand cmdStageReset r
  | .arm _ r => isRequest 1 r
  | .run _ r => isRequest 2 r
  | .halt _ r => isRequest 3 r
  | .off _ r => isRequest 4 r
  | .clear _ r => isRequest 5 r
  | .noneRequest _ r =>
    isCommand cmdChannelRequest r && decide (¬ (1 ≤ (requestNibble r).toNat ∧ (requestNibble r).toNat ≤ 5))
  | .traceArm _ r => isCommand cmdTraceArm r
  | .traceTrigger _ r => isCommand cmdTraceTrigger r
  | .traceStop _ r => isCommand cmdTraceStop r
  | .integrityClear _ r => isCommand cmdIntegrityClear r
  | .vectorEvent _ r => decide (r.kind = kindVector ∧ r.index = 0)
  | .vectorReset _ r => decide (r.kind = kindVector ∧ r.index = 1)
  | .fetch _ r => decide (r.kind = kindFetch)
  | .read _ r => decide (r.kind = kindRead ∧ r.table.toNat ≠ tableStage)
  | .endSymbol _ _ order => decide order.Nodup

end Sys2Proof
end

