-- ==== Sys2Proof/Safety.lean ====
section
/-! DEFINITION. The words the claims are stated in: a request taken as new and its reply, quiet protected memories, and the
conditions that every step keeps. -/

namespace Sys2Proof.Machine

open Sys2Proof

/-! ## Requests and replies -/

/-- The responder takes this request as a new one (R145, R146, R152): the node is addressed, the responder is IDLE, the request is
no repeat, and its count passes test 2 of R146. -/
abbrev State.takesNew (s : State) (r : ReqArea) : Prop :=
  s.ring.address ≠ 0 ∧ r.target = s.ring.address ∧ s.resp.state = .idle ∧ s.resp.repeated r = none ∧ r.count.toNat ≤ 8

/-- The reply of this node with its data words (R149); its count is that of the data words unless another is given. -/
def State.replyWith (s : State) (r : ReqArea) (st : ReplyStatus) (data : List Word) (count : Nat := data.length) : Reply :=
  { addr := s.ring.address, tag := r.tag, status := st, count := count, data := data }

/-- The state once a new request was answered at an instant and did nothing else (R149, R152, R154). -/
def State.answered (s : State) (t : Nat) (r : ReqArea) (st : ReplyStatus) (data : List Word) (count : Nat := data.length) : State :=
  { s.arrive t with
    resp := { s.resp with
      formed := some (s.replyWith r st data count)
      memory := some (memoryKey r, s.replyWith r st data count)
      counts := { s.resp.counts with taken := bump s.resp.counts.taken } } }

/-- A WRITE names word w. -/
abbrev names (r : ReqArea) (w : Nat) : Prop := r.word.toNat ≤ w ∧ w < r.word.toNat + r.count.toNat

/-- The data word a WRITE brings for word w (R148): data word 0 for its first word, and so on. -/
def written (r : ReqArea) (w : Nat) : Word := r.data.toList.getD (w - r.word.toNat) 0

/-- The value a setting takes: `v` of the data word if the WRITE names word w, else the old one. -/
def newValue {α : Type} (r : ReqArea) (w : Nat) (old : α) (v : Word → α) : α :=
  if r.word.toNat ≤ w ∧ w < r.word.toNat + r.count.toNat then v (written r w) else old

/-- The data words of a reply that reads back the words a WRITE names. -/
def readBack (r : ReqArea) (v : Nat → Word) : List Word := (List.range r.count.toNat).map fun k => v (r.word.toNat + k)

/-- The instant and the request area of an exchange row. -/
def requestRow (i : Instr) : Option (Nat × ReqArea) :=
  match i with
  | .powerOn => none
  | .portSymbol _ _ _ => none
  | .portSilence _ => none
  | .frameStart _ => none
  | .returnFrame _ _ => none
  | .portUWaitEnd => none
  | .headerCheck _ _ => none
  | .walkEntry _ _ => none
  | .replyArea _ _ => none
  | .frameCheck _ _ _ _ => none
  | .cycleBoundary _ => none
  | .holdoverTimeout _ => none
  | .periodEvent _ => none
  | .calibrationTimeout _ => none
  | .stopTimeLimit _ => none
  | .reportWindowExpiry _ => none
  | .stageReport _ _ _ _ _ => none
  | .jobComplete => none
  | .stageSymbol _ _ => none
  | .stageSilence _ => none
  | .stageRecordSent _ => none
  | .passThroughTimeout _ => none
  | .settlingEnd _ => none
  | .endSymbol _ _ _ => none
  | .write t r => some (t, r)
  | .channelWrite t r => some (t, r)
  | .timebaseWrite t r => some (t, r)
  | .shareWrite t r => some (t, r)
  | .nodeWrite t r => some (t, r)
  | .mapWrite t r => some (t, r)
  | .mapControlWrite t r => some (t, r)
  | .alertWrite t r => some (t, r)
  | .integrityWrite t r => some (t, r)
  | .traceWrite t r => some (t, r)
  | .stageRead t r => some (t, r)
  | .stageWrite t r => some (t, r)
  | .clearEvents t r => some (t, r)
  | .clearCounters t r => some (t, r)
  | .nodeReset t r => some (t, r)
  | .mapEnable t r => some (t, r)
  | .mapDisable t r => some (t, r)
  | .syncClear t r => some (t, r)
  | .stageReset t r => some (t, r)
  | .arm t r => some (t, r)
  | .run t r => some (t, r)
  | .halt t r => some (t, r)
  | .off t r => some (t, r)
  | .clear t r => some (t, r)
  | .noneRequest t r => some (t, r)
  | .traceArm t r => some (t, r)
  | .traceTrigger t r => some (t, r)
  | .traceStop t r => some (t, r)
  | .integrityClear t r => some (t, r)
  | .vectorEvent t r => some (t, r)
  | .vectorReset t r => some (t, r)
  | .fetch t r => some (t, r)
  | .read t r => some (t, r)

/-- A state with a code in a channel's latch, nothing else changed (R7). -/
def State.latched (s : State) (c : Chan) (code : RequestCode) : State :=
  s.onChan c fun x =>
    { x with record := { x.record with status := { x.record.status with latch := code } } }

/-! ## Protected memories -/

/-- No word of the protected memories is bad and no injection waits (R165, R169). -/
abbrev State.quiet (s : State) : Prop := s.svc.integ.flaws = [] ∧ s.svc.integ.kind = none

/-- An event of a class entered with the enable its alert map holds (R156). -/
def Services.entered (v : Services) (c : EventClass) (d : Detail) : Services := v.enter c d v.events.alert[c.place].enable

/-! ## The job queue (R72) -/

/-- A channel is RUNNING or STOPPING. -/
abbrev State.works (s : State) (c : Chan) : Prop := (s.status c).state = .running ∨ (s.status c).state = .stopping

/-- Abandoning a job takes the free unit from `x` to `u` (R72): the abandoned counter, JOB_LATE with the cause DEADLINE and, for a RUNNING
or STOPPING channel, the degraded run count (R20); above its limit the channel takes PERIOD_LOSS with a gate-off record at once (R5, R19),
and its RUNNING partner the code PARTNER (R24). Where a protected word is bad, the counter alone is said. -/
def State.abandonedTo (x : State) (j : Job) (u : State) : Prop :=
  let c := j.chan
  let z := x.status c
  let run := min (z.degradedRun + 1) 255
  let limit := (x.rcd c).tuning.degradedLimit
  let counts := { (x.chan c).counts with abandoned := bump (x.chan c).counts.abandoned }
  let late := x.svc.entered .jobLate (detail c.val 1)
  let stored (y : Status) : Channel := { x.chan c with counts := counts, record := { x.rcd c with status := y } }
  u = { x with channels := u.channels, links := u.links, svc := u.svc } ∧ (u.chan c).counts = counts ∧
  (x.quiet →
    (¬ x.works c → u = { x with svc := late }.onChan c fun _ => stored z) ∧
    (x.works c → run ≤ limit → u = { x with svc := late }.onChan c fun _ => stored { z with degradedRun := run }) ∧
    (x.works c → limit < run →
      u.chan c = { stored { z with
          degradedRun := run, state := .faulted, fault := .periodLoss, accD := 0, accQ := 0, idFw := 0 } with
        hid := { x.hid c with stopKind := .none, rampQ := 0, rampD := 0, rampsSet := false } } ∧
      ((x.link c).sending = none → ∃ r, (u.link c).sending = some r ∧ r.gates = false ∧ r.keepAlive = false ∧
        r.cmp = (x.link c).cmp ∧ r.seq = (x.link c).seq + 1) ∧
      ((x.link c).sending.isSome = true → u.link c = { x.link c with waiting := some .gateOff }) ∧
      (∀ d : Chan, d ≠ c → u.link d = x.link d) ∧
      (∀ d : Chan, d ≠ c → x.partner c ≠ some d ∨ (x.status d).state ≠ .running → u.chan d = x.chan d) ∧
      (∀ d, x.partner c = some d → (x.status d).state = .running →
        u.status d = { x.status d with state := .stopping, fault := .partner } ∧ (u.hid d).stopKind = .fault ∧
        u.svc = (late.entered .channelFault (detail c.val 5)).entered .channelFault (detail d.val 11)) ∧
      ((∀ d, x.partner c = some d → (x.status d).state ≠ .running) →
        u.svc = late.entered .channelFault (detail c.val 5))))

/-- The fault checks that a job meets at the start of its service find nothing (R13, R18). -/
def State.checksPass (x : State) (j : Job) : Prop :=
  let y := (x.rcd j.chan).tuning
  let z := x.status j.chan
  let within (raw : BitVec 16) (off : Int) : Prop :=
    -(y.trip : Int) ≤ max (-32767) (min 32767 (raw.toInt - off)) ∧ max (-32767) (min 32767 (raw.toInt - off)) ≤ y.trip
  (x.works j.chan → j.report = none → z.angleRun ≤ y.angleGrace) ∧
  (x.works j.chan → ∀ r, j.report = some r →
    r.wasReset = false ∧ r.desat = false ∧ within r.ia z.offA ∧ within r.ib z.offB ∧ within r.ic z.offC ∧
    r.u.toNat ≤ y.uMax ∧ y.uMin ≤ r.u.toNat ∧ r.temp.toInt ≤ y.tempLimit ∧
    (if r.angleValid then 0 else min (z.angleRun + 1) 255) ≤ y.angleGrace) ∧
  (z.state = .ready → ∀ r, j.report = some r → r.wasReset = false)

/-- The start of a job's service takes the free unit from `x` to `u`, with `rest` left in the queue (R72, R73): the job is in service from
now on, and where the fault checks find nothing it is there with its kind and its picture of the channel, and of the leader of a RUNNING
follower (R28, R29), and nothing else changes. What the fault checks do is FaultChecksStopAJob. -/
def State.begunTo (x : State) (j : Job) (rest : List Job) (u : State) : Prop :=
  let c := j.chan
  u = { x with channels := u.channels, links := u.links, cu := u.cu, svc := u.svc } ∧
  (∃ w, u.cu = { queue := rest, service := some w } ∧ w.job = j ∧ w.left = false ∧ w.rearmed = false ∧ w.startedAt = x.now) ∧
  (x.quiet → x.checksPass j → u = { x with cu := { queue := rest, service := some {
    job := j
    kind := if x.works c then (if j.report.isSome then .normal else .blind) else .measurement
    state0 := (x.status c).state
    blocked := false
    left := false
    rearmed := false
    startedAt := x.now
    record := x.rcd c
    hid := x.hid c
    leaderIq := if (x.status c).state = .running ∧ (x.rcd c).setup.role = .follower then
        (x.partner c).map fun d => (x.status d).fb.iqRef
      else none } } })

/-- The free unit takes heads of a queue, oldest first, from `x` to `u`, and each is tested at its taking (R72): one that can finish by its
deadline, 150 ticks from now, begins its service, with the rest left in the queue; one that cannot is abandoned, and the next head is taken
at the same moment. -/
def State.unitTakes : List Job → State → State → Prop
  | [], x, u => u = x
  | j :: rest, x, u =>
    (x.now + 150 ≤ j.deadline → x.begunTo j rest u) ∧
    (j.deadline < x.now + 150 → ∃ y, x.abandonedTo j y ∧ State.unitTakes rest y u)

/-! ## Frames -/

/-- A part of a frame was heard at Port U at an instant, the port being UP: time reached the instant, the port's symbol time moved on,
and its bad-symbol run is 0 (R111). -/
def State.heard (s : State) (t : Nat) : State :=
  { s.arrive t with
    ring := { (s.arrive t).ring with portU := { s.ring.portU with lastSymbol := max s.now t, badRun := 0 } } }

/-- At an instant a frame is being passed, as its own path and the transmitters leave it then, and its port is UP. -/
abbrev State.passing (s : State) (t : Nat) (f : Frame) : Prop := (s.arrive t).ring.frame = some f ∧ s.ring.portU.state = .up

/-- The take buffer emptied by a discard, with its counter (R139). -/
def Walker.discarded (w : Walker) : Walker :=
  { w with takes := {}, counts := { w.counts with discards := if w.takes = {} then w.counts.discards else bump w.counts.discards } }

/-! ## Conditions every step keeps -/

/-- The flaws of the protected memories stand in their one canonical form. -/
abbrev FlawsCanonical (s : State) : Prop := Memory.wf s.svc.integ.flaws = true

/-- The responder's state, its request in flight and its ready reply agree (8.4, R150). -/
abbrev ResponderAgrees (s : State) : Prop :=
  (s.resp.state = .waiting ↔ s.resp.flight.isSome = true) ∧ (s.resp.state = .holding ↔ s.resp.ready.isSome = true) ∧
    (∀ rep, s.resp.formed = some rep → rep.status.droppable = false → s.resp.state = .idle)

/-- The map length and the walk limit lie in their ranges (7.2, R127), and so do the fields of every entry (7.1, R126). -/
abbrev MapControlInRange (s : State) : Prop :=
  s.walker.len ≤ 128 ∧ 1 ≤ s.walker.limit ∧ s.walker.limit ≤ 128 ∧
    ∀ i : Fin 128,
      let e := s.walker.map[i]
      (e.offset ≤ 511 ∨ e.offset = 1023 ∧ e.action = .skipUnless) ∧ e.item ≤ 31 ∧ 1 ≤ e.skip ∧ e.skip ≤ 127

/-- No mark is counted toward lock in LOCKED and HOLDOVER (R63 to R65). -/
abbrev LockRunAtRest (s : State) : Prop := s.tb.state = .locked ∨ s.tb.state = .holdover → s.tb.inRun = 0

/-- The words of the frame being passed agree with where it stands (6.4, R117, R149): none is forwarded before the header is whole, as
many are forwarded as received unless the frame is lost, each has the instant at which it came, and words of a reply still go out in the
reply area alone. -/
abbrev FrameAgrees (s : State) : Prop :=
  ∀ f, s.ring.frame = some f →
    f.times.length = f.rx.length ∧
    (f.phase = .awaiting → f.rx.length < 13 ∧ f.tx = [] ∧ f.area = []) ∧
    (f.phase ≠ .awaiting → 13 ≤ f.rx.length ∧ (f.lost = false → f.tx.length = f.rx.length) ∧
      (f.area ≠ [] → f.areaAt < f.rx.length ∧ f.rx.length + f.area.length = f.areaAt + 9))

/-- Each channel's fault code is NONE exactly when it is neither FAULTED nor in a fault stop (R19), its id_fw is 0 outside RUNNING and STOPPING
(R22), and a write held for its job gives no id_fw_min above 0 (R2). A job in service whose result still counts began in the states its
channel is in, and one that is no measurement began in RUNNING or STOPPING (R6, R28). -/
abbrev ChannelsAgree (s : State) : Prop :=
  (∀ c : Chan,
    ((s.status c).fault = .none ↔
      (s.status c).state ≠ .faulted ∧ ¬ ((s.status c).state = .stopping ∧ (s.hid c).stopKind = .fault)) ∧
    ((s.status c).state ≠ .running → (s.status c).state ≠ .stopping → (s.status c).idFw = 0) ∧
    ∀ ps ∈ (s.chan c).held, ∀ p ∈ ps, p.1 = 18 → p.2 ≤ 0) ∧
  (∀ v, s.cu.service = some v → v.blocked = false → v.left = false →
    (v.state0.gatesOn = true → (s.status v.job.chan).state.gatesOn = true) ∧
    (v.state0 = .calibrating → (s.status v.job.chan).state = .calibrating) ∧
    (v.kind ≠ .measurement → v.state0.gatesOn = true))

/-- At most one job of a channel waits in the queue (R71). -/
abbrev OneQueuedJob (s : State) : Prop := (s.cu.queue.map Job.chan).Nodup

/-- The recorder holds at most 1 024 entries, and its two counts together ask for no more (R172, R176); below that, fewer than the
pre-trigger count in FILLING, at most it in ARMED, and after the trigger at most one more per capture counted (R173 to R176). -/
abbrev TraceInRange (s : State) : Prop :=
  s.svc.trace.entries.length ≤ 1024 ∧ s.svc.trace.pre + s.svc.trace.post ≤ 1024 ∧ 1 ≤ s.svc.trace.post ∧
    (s.svc.trace.state = .filling → s.svc.trace.entries.length < s.svc.trace.pre) ∧
    (s.svc.trace.state = .armed → s.svc.trace.entries.length ≤ s.svc.trace.pre) ∧
    (s.svc.trace.state = .post → s.svc.trace.entries.length ≤ s.svc.trace.pre + s.svc.trace.postDone ∧
      s.svc.trace.postDone < s.svc.trace.post)

/-- A state in which every one of these conditions holds. -/
abbrev Safe (s : State) : Prop :=
  FlawsCanonical s ∧ ResponderAgrees s ∧ MapControlInRange s ∧ LockRunAtRest s ∧ FrameAgrees s ∧ ChannelsAgree s ∧
    OneQueuedJob s ∧ TraceInRange s

end Sys2Proof.Machine
end

