-- ==== Sys2Proof/Certificates/Slice0/Obligations.lean ====
section
/-! DEFINITION. The statements for the provers. -/

open Sys2Proof Sys2Proof.Machine

/-! ## Steps and power-on -/

/-- A step takes the command at the front of the queue and runs it with the queue's rest; on an empty queue it counts one tick and
changes nothing else. The queue and its idle step are the model's choice, log 1 and log 2. -/
def Obligations.StepRunsTheFrontCommand : Prop :=
  (∀ (c : Instr) (rest : List Instr) (s : State), s.pending = c :: rest → step s = exec c { s with pending := rest }) ∧
  (∀ s : State, s.pending = [] → step s = .next { s with now := s.now + 1 })

/-- POWER_ON leaves every block at its defaults (tables of 1.1, 3.1, 5.1, 6.3, 7.2, 9.3, 10.2, 11.1; R3, R67, R95, R109, R124, R144,
R155, R163, R164, R171, R178): every word of every table, and what the blocks hold besides. The values that the spec gives for no word
of a table are the model's (INVENTORY.md, '## State'; log 13, 14, 22, 25, 26, 40), that the waiting commands stay is the model's choice,
log 32, and so is the count that picks free values, log 48. -/
def Obligations.PowerOnLeavesTheDefaults : Prop :=
  ∀ s : State, ∃ u, exec .powerOn s = .next u ∧ u.pending = s.pending ∧ u.lostArms = s.lostArms ∧
    (∀ c : Chan,
      (u.rcd c).setup = {
        periods := 2, offset := 0, window := 800, deadline := 0, role := .none, partner := 0, share := 0
        fwOn := false, offsetLimit := 1638, weight := 4096 } ∧
      (u.rcd c).tuning = {
        kpD := 0, kiD := 0, kpQ := 0, kiQ := 0, modLimit := 0, advance := 384, fwThreshold := 0, fwStep := 0, idFwMin := 0
        iqLim := 0, idLim := 0, imax := 0, iqFloor := 0, trip := 0, uMin := 0, uMax := 0, tempLimit := 0, rampRate := 1
        stopLimit := 1, zeroThreshold := 0, missLimit := 0, degradedLimit := 0, angleGrace := 0, cmin := 0, rank := 3 } ∧
      u.status c = {
        state := .off, fault := .none, latch := .none, offA := 0, offB := 0, offC := 0
        iqPrev := 0, iqCur := 0, idPrev := 0, idCur := 0, vdFf := 0, vqFf := 0, accD := 0, accQ := 0, idFw := 0
        grant := 32767, missRun := 0, degradedRun := 0, angleRun := 0
        fb := {
          id := 0, iq := 0, idRef := 0, iqRef := 0, vd := 0, vq := 0, u := 0, theta := 0, omega := 0, p := 0
          cmp := { a := 0, b := 0, c := 0 }
          flags := { qLimit := false, circle := false, dVolt := false, qVolt := false, fwFloor := false } } } ∧
      u.hid c = {
        iqIn := 0, idIn := 0, vdIn := 0, vqIn := 0, fresh := false, sumA := 0, sumB := 0, sumC := 0, calSamples := 0
        calPeriods := 0, stopKind := .none, rampQ := 0, rampD := 0, rampsSet := false, stopPeriods := 0, effP := 0, effN := 0
        effOffset := 0, effWindow := 0, effDeadline := 0, thetaPrev := 0, omega := 0, histPeriod := -1, firstJob := true
        usedIdFw := 0, periodCount := 0, events := [] } ∧
      (u.chan c).held = [] ∧ (u.chan c).counts = { completed := 0, abandoned := 0, overrun := 0, setpoints := 0 } ∧
      u.link c = {
        present := false, lastSymbol := 0, seq := 0, cmp := { a := 0, b := 0, c := 0 }, gates := false, sentSeq := 0
        sending := none, waiting := none, window := none, waiver := false, report := none, note := false
        resetWaiting := false, settling := .none, pass := none, lastSync := .keepAlive
        counts := {
          damaged := 0, parity := 0, missWindow := 0, missParity := 0, missEcho := 0, late := 0, stray := 0
          timeouts := 0, sent := 0 } }) ∧
    u.tb = {
      state := .free, cycleLen := 25000, offset := 0, ringDelay := 0, slew := 4, lockWindow := 20, holdLimit := 4000
      syncFault := false, lastError := 0, inRun := 0, outRun := 0, missRun := 0, holdCount := 0
      nextBoundary := u.now + 25000, lastBoundary := u.now, lenInUse := 25000, markNoted := false, marksTaken := 0
      marksMissed := 0 } ∧
    u.cu = { queue := [], service := none } ∧
    u.share = {
      enable := false, supply := 0, credit := true, restricted := false, remaining := 0, regen := 0, cutRank := 4
      demands := Vector.replicate 4 0, budgets := 0, restrictedBudgets := 0 } ∧
    (let down : RingPort := { state := .down, goodRun := 0, badRun := 0, lastSymbol := 0 }
     u.ring = {
      portU := down, portD := down, topology := .auto, participation := .active, address := 0, frame := none, back := none
      uDue := [], uSending := none, uWaiting := none, dTail := [], forwarded := none
      counts := {
        frames := 0, headerFail := 0, checkFail := 0, undefKinds := 0, lost := 0, discards := 0, symErrU := 0
        symErrD := 0 } }) ∧
    u.walker = {
      map := Vector.replicate 128 {
        action := .endWalk, offset := 0, chan := 0, item := 0, skip := 1, mask := 0, value := 0 }
      len := 0, limit := 128, state := .disabled, lastEnd := .none, lastCount := 0, pos := none, executed := 0, cur := 0
      takes := {
        chan := Vector.replicate 8 { iq := none, id := none, vd := none, vq := none, request := none }, supply := none }
      counts := { begun := 0, late := 0, short := 0, limited := 0, commits := 0, discards := 0, halts := 0 } } ∧
    u.resp = {
      state := .idle, flight := none, formed := none, ready := none, memory := none, resetOrdered := false
      counts := { taken := 0, busy := 0, repeats := 0, deferred := 0, dropped := 0 } } ∧
    u.svc.events = {
      pending := Vector.replicate 16 none, alert := Vector.replicate 16 { enable := true, line := 0 }
      causePowerOn := true, causeRing := false, causeNode := false } ∧
    u.svc.integ = {
      corrected := 0, uncorrectable := 0, corrCapture := none, uncCapture := none, target := .channel, kind := none
      parity := Vector.replicate 8 false, flaws := [] } ∧
    u.svc.trace = {
      state := .idle, laneChan := Vector.replicate 4 0, laneQty := Vector.replicate 4 0, refChan := 0, pre := 0, post := 1
      source := .command, trigClass := 1, level := 0, entries := [], next := 0, sample := 0, trigSample := 0
      prevLane := none, postDone := 0 }

/-! ## Ring ports (6.1, 6.2) -/

/-- A symbol moves a port's link state and runs and counts a bad symbol (R111); a change of state raises LINK_CHANGE; an idle or a bad
symbol changes nothing else where no frame stands at the port. 2 us without a symbol take a port in TRAINING or UP to DOWN (R111). A
symbol of a frame acts as the row of that symbol does (the rows that overlap are the model's reading, log 33). -/
def Obligations.PortSymbolsMoveTheLinkState : Prop :=
  let rests (p : Port) (z : State) : Prop := z.ring.frame = none ∧ (p = .d → z.ring.back = none ∧ z.ring.dTail = [])
  (∀ (t : Nat) (p : Port) (sym : LineSymbol) (s : State), ∃ u, exec (.portSymbol t p sym) s = .next u ∧
    let x := s.ring.port p
    let y := u.ring.port p
    let z := s.arrive t
    (x.state = .down → y.state = .training ∧ y.goodRun = 0 ∧ y.badRun = 0) ∧
    (x.state = .training → sym ≠ .idle → y.state = .training ∧ y.goodRun = 0) ∧
    (x.state = .training → sym = .idle → x.goodRun + 1 ≠ 64 → y.state = .training ∧ y.goodRun = x.goodRun + 1) ∧
    (x.state = .training → sym = .idle → x.goodRun + 1 = 64 → y.state = .up ∧ y.badRun = 0) ∧
    (x.state = .up → sym ≠ .bad → y.state = .up ∧ y.badRun = 0) ∧
    (x.state = .up → sym = .bad → x.badRun + 1 ≠ 16 → y.state = .up ∧ y.badRun = x.badRun + 1) ∧
    (x.state = .up → sym = .bad → x.badRun + 1 = 16 → y.state = .training ∧ y.goodRun = 0 ∧ y.badRun = 0) ∧
    y.lastSymbol = max s.now t ∧ u.now = max s.now t ∧
    (sym = .idle ∨ sym = .bad → y.state = .up ∨ x.state ≠ .up ∨ rests p z →
      u.ring.counts.symErrU = (if p = .u ∧ sym = .bad then bump s.ring.counts.symErrU else s.ring.counts.symErrU) ∧
      u.ring.counts.symErrD = (if p = .d ∧ sym = .bad then bump s.ring.counts.symErrD else s.ring.counts.symErrD) ∧
      u.svc = (if y.state = x.state then s.svc else s.svc.raise .linkChange (detail (portCode p) y.state.code)) ∧
      u = { z with
        svc := u.svc
        ring := { z.ring.setPort p y with
          counts := { z.ring.counts with symErrU := u.ring.counts.symErrU, symErrD := u.ring.counts.symErrD } } })) ∧
  (∀ (p : Port) (s : State), (s.ring.port p).state ≠ .down → ∃ u, exec (.portSilence p) s = .next u ∧
    let z := s.arrive ((s.ring.port p).lastSymbol + 200)
    u.now = max s.now ((s.ring.port p).lastSymbol + 200) ∧ (u.ring.port p).state = .down ∧
    (rests p z →
      u = { z with
        svc := s.svc.raise .linkChange (detail (portCode p) 0)
        ring := z.ring.setPort p { s.ring.port p with state := .down } })) ∧
  (∀ (t : Nat) (s : State),
    exec (.portSymbol t .u .frameStart) s = exec (.frameStart t) s ∧
    exec (.portSymbol t .u .frameEnd) s = exec (.endSymbol t [] []) s ∧
    exec (.portSymbol t .d .frameStart) s = exec (.returnFrame t []) s ∧
    (∀ (w : Word) (f : Frame), s.ring.frame = some f → f.phase ≠ .awaiting →
      f.rx.length + 1 ≤ 13 + hdrPayload (f.rx.getD 0 0) →
      exec (.portSymbol t .u (.frameWord w)) s = exec (.walkEntry t [w]) s))

/-- A frame with a good header of kind CYCLE or RESET that ends because Port U leaves UP, by its silence or by the 16th bad symbol in a
row (R111), is handled as one with a bad frame check (R112): its walk ends with CUT, its takes are discarded, FRAME_DAMAGED is raised
behind LINK_CHANGE, and no channel sees anything of it. If its forwarding has begun it is closed at once, behind the words that have left
(R112, R113), and Port U's transmitter is free; one whose header is not whole leaves nothing (R112). Port D leaving UP loses the rest of each
frame still going out of it, ended or not, and counts it (R113). The model's: that F, if it has left, went out spoiled in its place, log 6 (R121); that
nothing goes out of a frame whose start symbol has not left, and that Port D's leaving UP counts such a frame lost, log 24; the words noted
as gone, log 23 and log 40; the order LINK_CHANGE before FRAME_DAMAGED, log 8. -/
def Obligations.FramesAreCutOrLost : Prop :=
  let sealed (f : Frame) : List Word :=
    let whole := hdrPayload (f.rx.getD 0 0) + 23
    if f.tx.length < whole then f.tx
    else f.tx.take (whole - 1) ++ [~~~ frameCrc (f.tx.take (whole - 1))] ++ f.tx.drop whole
  let gone (f : Frame) (d now : Nat) : List Word := (sealed f).take (f.times.takeWhile fun a => decide (a + d ≤ now)).length
  let cut (s z u : State) (f : Frame) (link symErrU : Nat) : Prop :=
    let counts : RingCounts := { z.ring.counts with symErrU := symErrU }
    u.ring.frame = none ∧ u.ring.dTail = z.ring.dTail ∧
    (f.phase = .awaiting →
      u.ring.forwarded = z.ring.forwarded ∧ u.ring.counts = counts ∧ u.walker = s.walker ∧ u.resp = s.resp ∧
        u.svc = s.svc.raise .linkChange (detail 0 link)) ∧
    (f.phase = .cycle ∨ f.phase = .reset →
      u.ring.counts = { counts with checkFail := bump s.ring.counts.checkFail } ∧
      (f.lost = true → u.ring.forwarded = z.ring.forwarded) ∧
      (f.lost = false → f.path = .outD → u.ring.forwarded =
        if f.stamp + 60 ≤ u.now then some { path := .outD, words := gone f 60 u.now } else z.ring.forwarded) ∧
      (∀ x left, f.lost = false → f.path = .outU → z.ring.uSending = some x → x.returning = false → x.ended = none →
        x.leftAt = some left → (∀ w, z.ring.uWaiting = some w → w.returning = true) →
        u.ring.forwarded = some { path := .outU, words := gone f (left - x.startAt) u.now } ∧ u.ring.uWaiting = none ∧
        u.ring.uSending = z.ring.uWaiting.map fun w => { w with leftAt := some (max (w.startAt + if w.returning then 8 else 60) u.now) }) ∧
      (f.lost = false → f.path = .outU → z.ring.uSending = none → u.ring.forwarded = z.ring.forwarded) ∧
      u.walker.takes = {} ∧
      (s.walker.state = .walking → u.walker.state = .ready ∧ u.walker.lastEnd = .cut ∧
        u.walker.lastCount = s.walker.executed) ∧
      u.svc = (s.svc.raise .linkChange (detail 0 link)).raise .frameDamaged
        (detail (hdrKind (f.rx.getD 0 0)) (hdrCycle (f.rx.getD 0 0)))) ∧
    u.channels = s.channels ∧ u.links = s.links ∧ u.cu = s.cu ∧ u.share = s.share ∧ u.tb = s.tb ∧ u.pending = s.pending
  (∀ (s : State) (f : Frame), s.passing (s.ring.portU.lastSymbol + 200) f → s.resp.resetOrdered = false →
    ∃ u, exec (.portSilence .u) s = .next u ∧ u.now = max s.now (s.ring.portU.lastSymbol + 200) ∧
      cut s (s.arrive (s.ring.portU.lastSymbol + 200)) u f 0 s.ring.counts.symErrU) ∧
  (∀ (t : Nat) (s : State) (f : Frame), s.passing t f → s.resp.resetOrdered = false → s.ring.portU.badRun + 1 = 16 →
    ∃ u, exec (.portSymbol t .u .bad) s = .next u ∧ u.now = max s.now t ∧
      cut s (s.arrive t) u f 1 (bump s.ring.counts.symErrU)) ∧
  (∀ s : State, s.ring.portD.state = .up →
    let z := s.arrive (s.ring.portD.lastSymbol + 200)
    let lost := z.ring.counts.lost + z.ring.dTail.length
    let noted : Option Forwarded := match z.ring.dTail.getLast? with
      | some g => some { path := .outD, words := g.words.take (g.times.takeWhile fun a => decide (a + 60 ≤ z.now)).length }
      | none => z.ring.forwarded
    z.ring.back = none → lost < 4294967295 →
    ∃ u, exec (.portSilence .d) s = .next u ∧ u.ring.dTail = [] ∧
      u = { z with svc := s.svc.raise .linkChange (detail 1 0), ring := u.ring } ∧
      (∀ f, z.ring.frame = some f → f.path = .outD → f.lost = false →
        u.ring.frame = some { f with lost := true } ∧ u.ring.counts = { z.ring.counts with lost := lost + 1 } ∧
        (f.phase = .cycle ∨ f.phase = .reset → u.ring.forwarded =
          if f.stamp + 60 ≤ u.now then some { path := .outD, words := gone f 60 u.now } else noted) ∧
        (f.phase = .awaiting → u.ring.forwarded = noted)) ∧
      ((∀ f, z.ring.frame = some f → f.path = .outU ∨ f.lost = true) →
        u.ring = { z.ring with
          portD := { s.ring.portD with state := .down }
          counts := { z.ring.counts with lost := lost }
          dTail := []
          forwarded := noted }))

/-- A start symbol at Port U in UP takes a frame: it is counted and stamped, its path is fixed by the topology and Port D, and one
turned back will be due at Port U's transmitter 600 ns later (R113). A frame still passing ends with it, as a bad frame check
(R112), and is closed at once. A port not UP takes none (R112). That nothing goes out of a frame so ended whose start symbol has not left is
the model's choice, log 24; the words noted as gone are log 40. -/
def Obligations.StartSymbolTakesAFrame : Prop :=
  ∀ (t : Nat) (s : State), ∃ u, exec (.frameStart t) s = .next u ∧ u.now = max s.now t ∧
    let z := s.arrive t
    (s.ring.portU.state ≠ .up → u.ring.frame = z.ring.frame ∧ u.ring.counts.frames = s.ring.counts.frames) ∧
    (s.ring.portU.state = .up → z.ring.frame = none →
      ∃ f, u.ring.frame = some f ∧ f.stamp = max s.now t ∧ f.phase = .awaiting ∧ f.rx = [] ∧ f.times = [] ∧ f.tx = [] ∧ f.area = [] ∧
        f.path = (match s.ring.topology with
          | .loop => .outU
          | .through => .outD
          | .auto => if s.ring.portD.state = .up then .outD else .outU) ∧
        f.lost = decide (f.path = .outD ∧ s.ring.portD.state ≠ .up) ∧
        u.ring.counts = { z.ring.counts with
          frames := bump s.ring.counts.frames
          lost := if f.lost then bump z.ring.counts.lost else z.ring.counts.lost } ∧
        (f.path = .outD → u.ring.uDue = z.ring.uDue) ∧
        (f.path = .outU → z.ring.uDue = [] →
          u.ring.uDue = [{ returning := false, startAt := max s.now t, leftAt := none, ended := none }]) ∧
        u = { z with ring := u.ring }) ∧
    (∀ f, s.passing t f → f.phase = .cycle ∨ f.phase = .reset → s.resp.resetOrdered = false →
      (∃ g, u.ring.frame = some g ∧ g.phase = .awaiting ∧ g.rx = [] ∧ g.stamp = max s.now t) ∧
      u.ring.counts.checkFail = bump s.ring.counts.checkFail ∧ u.ring.counts.frames = bump s.ring.counts.frames ∧
      u.walker.takes = {} ∧ u.walker.state ≠ .walking ∧
      u.svc = s.svc.raise .frameDamaged (detail (hdrKind (f.rx.getD 0 0)) (hdrCycle (f.rx.getD 0 0))) ∧
      u.channels = s.channels ∧ u.tb = s.tb ∧ u.ring.dTail = z.ring.dTail ∧
      (f.lost = false → f.path = .outD → f.tx.length < hdrPayload (f.rx.getD 0 0) + 23 → u.ring.forwarded =
        if f.stamp + 60 ≤ u.now then
          some { path := .outD, words := f.tx.take (f.times.takeWhile fun a => decide (a + 60 ≤ u.now)).length }
        else z.ring.forwarded))

/-- A returning frame is forwarded out of Port U as received, or discarded in LOOP, and no block acts on it (R114). Port U's
transmitter (R114): a frame due while it is free is sent from that moment; due while another is being sent it waits; due while both
places are taken it is dropped and counted lost; and the waiting one starts when the other's end symbol has gone. A returning frame that a
second start symbol cuts short is closed at once, behind the words that have left, and frees the transmitter (R112). When a frame takes
its place there, and that nothing goes out of a frame cut before its start symbol has left, is the model's reading, log 24; when a frame is
noted as forwarded, and with which words, is log 40. -/
def Obligations.ReturningFramesShareTheTransmitter : Prop :=
  (∀ (t : Nat) (words : List Word) (s : State), s.ring.portD.state = .up → (s.arrive t).ring.back = none →
    ∃ u, exec (.returnFrame t words) s = .next u ∧
      let z := s.arrive t
      let y : TxFrame := { returning := true, startAt := max s.now t, leftAt := none, ended := none }
      (s.ring.topology = .loop →
        u.ring.back = none ∧ u.ring.uDue = z.ring.uDue ∧ u.ring.forwarded = z.ring.forwarded ∧
          u.ring.counts = { z.ring.counts with discards := bump s.ring.counts.discards }) ∧
      (s.ring.topology ≠ .loop →
        u.ring.back = some { lost := false, words := words, times := List.replicate words.length (max s.now t) } ∧
          u.ring.counts = z.ring.counts ∧
          (z.ring.uDue = [] → u.ring.uDue = [y])) ∧
      u.ring.frame = z.ring.frame ∧ u = { z with ring := u.ring }) ∧
  (∀ (t : Nat) (s : State) (b : ReturnFrame), s.ring.portD.state = .up → (s.arrive t).ring.back = some b → b.lost = false →
    ∃ u, exec (.portSymbol t .d .frameEnd) s = .next u ∧ u.ring.back = none ∧
      u.ring.forwarded = some { path := .outU, words := b.words } ∧ u.ring.frame = (s.arrive t).ring.frame ∧
      u = { s.arrive t with ring := u.ring }) ∧
  (∀ (t : Nat) (words : List Word) (s : State) (b : ReturnFrame), s.ring.portD.state = .up → (s.arrive t).ring.back = some b →
    ∃ u, exec (.returnFrame t words) s = .next u ∧ u = { s.arrive t with ring := u.ring } ∧
      let z := (s.arrive t).ring
      u.ring.frame = z.frame ∧ u.ring.back = (if s.ring.topology = .loop then none else
        some { lost := false, words := words, times := List.replicate words.length (max s.now t) }) ∧
      (∀ x left, z.uSending = some x → x.returning = true → x.ended = none → x.leftAt = some left →
        (∀ w, z.uWaiting = some w → w.returning = false) →
        u.ring.forwarded = some {
          path := .outU
          words := b.words.take (b.times.takeWhile fun a => decide (a + (left - x.startAt) ≤ u.now)).length } ∧
        u.ring.uWaiting = none ∧
        u.ring.uSending = z.uWaiting.map fun w => { w with leftAt := some (max (w.startAt + if w.returning then 8 else 60) u.now) }) ∧
      (z.uSending = none → u.ring.forwarded = z.forwarded ∧ u.ring.uSending = none)) ∧
  (∀ (r : Ring) (now : Nat) (y : TxFrame), r.uDue = [y] →
    let due := y.startAt + (if y.returning then 8 else 60)
    let sent : TxFrame := { y with leftAt := some due }
    let stays (z : TxFrame) : Prop := ∀ l e, z.leftAt = some l → z.ended = some e → now < e + (l - z.startAt)
    (now < due → (∀ z, r.uSending = some z → stays z) → (r.settle now).uDue = [y] ∧ (r.settle now).uSending = r.uSending) ∧
    (due ≤ now → r.uSending = none → r.uWaiting = none → stays sent →
      (r.settle now).uSending = some sent ∧ (r.settle now).uDue = [] ∧ (r.settle now).counts = r.counts) ∧
    (∀ z, due ≤ now → r.uSending = some z → stays z → r.uWaiting = none →
      (r.settle now).uSending = some z ∧ (r.settle now).uWaiting = some y ∧ (r.settle now).uDue = [] ∧
        (r.settle now).counts = r.counts) ∧
    (∀ z w, due ≤ now → r.uSending = some z → stays z → r.uWaiting = some w →
      (r.settle now).uSending = some z ∧ (r.settle now).uWaiting = some w ∧ (r.settle now).uDue = [] ∧
        (r.settle now).counts = { r.counts with lost := bump r.counts.lost } ∧
        (r.settle now).forwarded = (if y.ended = none then r.forwarded else some { path := .outU, words := [] }) ∧
        (y.returning = false → y.ended = none → ∀ f, r.frame = some f → (r.settle now).frame = some { f with lost := true }) ∧
        (y.returning = true → y.ended = none → ∀ b, r.back = some b →
          (r.settle now).back = some { b with lost := true } ∧ (r.settle now).frame = r.frame))) ∧
  (∀ (s : State) (w x : TxFrame) (left ended : Nat), s.ring.uWaiting = some w → s.ring.uSending = some x → s.ring.uDue = [] →
    s.ring.dTail = [] → x.leftAt = some left → x.ended = some ended →
    let gone := ended + (left - x.startAt)
    s.now ≤ gone → (∀ e, w.ended = some e → w.startAt < e) →
    exec .portUWaitEnd s = .next { s with
      now := gone
      ring := { s.ring with
        uSending := some { w with leftAt := some (max (w.startAt + (if w.returning then 8 else 60)) gone) }
        uWaiting := none } })

/-! ## Frames at Port U (6.4 to 6.7), and the slot map's walk (07) -/

/-- A header the node does nothing with goes on: with a bad check the header-failure counter rises and the check goes out spoiled
(R118); with a good check and an undefined kind the undefined-kind counter rises and the header goes out as received (R117). Nothing
else changes. -/
def Obligations.UnusableHeaderDoesNothing : Prop :=
  ∀ (t : Nat) (h : Vector Word 13) (s : State) (f : Frame), s.passing t f → f.phase = .awaiting → f.rx.isPrefixOf h.toList = true →
    let x := s.heard t
    let times := f.times ++ List.replicate (13 - f.times.length) x.now
    (headerGood h = false →
      exec (.headerCheck t h) s = .next { x with ring := { x.ring with
        counts := { x.ring.counts with headerFail := bump x.ring.counts.headerFail }
        frame := some { f with
          phase := .bad
          rx := h.toList
          times := times
          tx := h.toList.take 12 ++ [(~~~ headerCrc (h.toList.take 12)) ++ BitVec.setWidth 16 h[12]] } } }) ∧
    (headerGood h = true → 2 ≤ hdrKind h[0] →
      exec (.headerCheck t h) s = .next { x with ring := { x.ring with
        counts := { x.ring.counts with undefKinds := bump x.ring.counts.undefKinds }
        frame := some { f with phase := .undefinedKind, rx := h.toList, times := times, tx := h.toList } } })

/-- A RESET header numbers the node and applies a ring reset, block by block (R123, R3, R67, R75, R95, R109, R144, R155, R164, R171,
R178). A channel that was RUNNING or STOPPING hands its link a gate-off record at the reset (R3, R79); its state is read through the check
bits, counted and captured where it is bad (R165). That a channel whose state word is uncorrectable hands over the record too is the model's
choice, log 11; the hidden items that the spec gives no power-on value have the model's, log 13, 14 and 26. -/
def Obligations.ResetHeaderNumbersAndResets : Prop :=
  ∀ (t : Nat) (h : Vector Word 13) (s : State) (f : Frame), s.passing t f → f.phase = .awaiting → f.rx.isPrefixOf h.toList = true → headerGood h = true →
    hdrKind h[0] = 1 → ∃ u, exec (.headerCheck t h) s = .next u ∧
      u.ring.address = (if hdrPosition h[1] + 1 ≤ 63 then BitVec.ofNat 6 (hdrPosition h[1] + 1) else 0) ∧
      (∃ g, u.ring.frame = some g ∧ g.phase = .reset ∧ g.rx = h.toList ∧ g.tx.length = 13 ∧
        hdrPosition (g.tx.getD 1 0) = min 255 (hdrPosition h[1] + 1) ∧
        carriedCheck (g.tx.getD 12 0) = headerCrc (g.tx.take 12)) ∧
      u.ring.topology = s.ring.topology ∧ u.ring.participation = s.ring.participation ∧ u.ring.counts = {} ∧
      (∀ c : Chan, (u.rcd c).setup = (s.rcd c).setup ∧ (u.rcd c).tuning = (s.rcd c).tuning ∧ u.status c = {} ∧ u.hid c = {} ∧
        (u.chan c).held = [] ∧ (u.link c).present = (s.link c).present ∧ (u.link c).pass = none ∧
        (u.link c).report = none ∧ (u.link c).window = none ∧ (u.link c).counts = {}) ∧
      (∀ c : Chan,
        let l := s.link c
        let m := u.link c
        let on := (s.status c).state = .running ∨ (s.status c).state = .stopping ∨ s.svc.flawAt (chanLoc c 35) = some .double
        (on →
          (l.sending = none → ∃ q, m.sending = some q ∧ q.gates = false ∧ q.keepAlive = false ∧ q.cmp = l.cmp ∧
            q.seq = l.seq + 1) ∧
          (l.sending.isSome = true → m.sending = l.sending ∧ m.waiting = some .gateOff)) ∧
        (¬ on → m.sending = l.sending ∧ m.waiting = l.waiting ∧ m.seq = l.seq)) ∧
      (∀ (c : Chan) (k : Flaw), s.svc.integ.flaws = [((chanLoc c 35).key, k)] →
        u.svc.integ.flaws = [] ∧
        u.svc.integ.corrected = (if k = .single then min (s.svc.integ.corrected + 1) 65535 else s.svc.integ.corrected) ∧
        u.svc.integ.uncorrectable = (if k = .double then min (s.svc.integ.uncorrectable + 1) 65535 else s.svc.integ.uncorrectable) ∧
        (k = .single → u.svc.integ.corrCapture = some (chanLoc c 35) ∧ u.svc.integ.uncCapture = s.svc.integ.uncCapture) ∧
        (k = .double → u.svc.integ.uncCapture = some (chanLoc c 35) ∧ u.svc.integ.corrCapture = s.svc.integ.corrCapture)) ∧
      u.tb.state = .free ∧ u.tb.nextBoundary = s.tb.nextBoundary ∧ u.tb.cycleLen = s.tb.cycleLen ∧
      u.tb.offset = s.tb.offset ∧ u.tb.ringDelay = s.tb.ringDelay ∧ u.tb.syncFault = false ∧ u.tb.marksTaken = 0 ∧
      u.cu.queue = [] ∧ u.cu.service = none ∧
      u.share.enable = s.share.enable ∧ u.share.supply = s.share.supply ∧ u.share.restricted = false ∧ u.share.cutRank = 4 ∧
      u.walker.state = .disabled ∧ u.walker.map = s.walker.map ∧ u.walker.len = s.walker.len ∧ u.walker.limit = s.walker.limit ∧
      u.walker.takes = {} ∧ u.resp.state = .idle ∧ u.resp.ready = none ∧ u.resp.memory = none ∧
      u.svc.events.pendingCount = 0 ∧ u.svc.events.alert = s.svc.events.alert ∧ u.svc.events.causeRing = true ∧
      u.svc.events.causePowerOn = s.svc.events.causePowerOn ∧ u.svc.events.causeNode = s.svc.events.causeNode ∧
      u.svc.integ.kind = none ∧
      (s.svc.integ.flaws = [] → u.svc.integ.corrected = s.svc.integ.corrected ∧
        u.svc.integ.uncorrectable = s.svc.integ.uncorrectable) ∧
      u.svc.trace.state = .idle ∧ u.svc.trace.entries = [] ∧ u.svc.trace.pre = s.svc.trace.pre

/-- A CYCLE header that asks nothing of a PASSIVE node gives its mark and is forwarded exactly as received (R115, R119, R120). That a mark
taken in HOLDOVER is noted for the next boundary too is DEDUCED, log 28. -/
def Obligations.PassiveNodeOnlyTakesTheMark : Prop :=
  ∀ (t : Nat) (h : Vector Word 13) (s : State) (f : Frame), s.passing t f → f.phase = .awaiting → f.rx.isPrefixOf h.toList = true → headerGood h = true →
    hdrKind h[0] = 0 → s.ring.participation = .passive → (s.ring.address = 0 ∨ (reqOf h).target ≠ s.ring.address) →
    ∃ u, exec (.headerCheck t h) s = .next u ∧
      (∃ g, u.ring.frame = some g ∧ g.phase = .cycle ∧ g.rx = h.toList ∧ g.tx = h.toList ∧ g.path = f.path ∧ g.stamp = f.stamp) ∧
      u.tb.marksTaken = bump s.tb.marksTaken ∧ u.tb.markNoted = true ∧
      (s.tb.state = .free → u.tb.state = .acquire) ∧
      u.walker = s.walker ∧ u.resp = { s.resp with formed := none } ∧ u.links = s.links ∧ u.share = s.share ∧ u.cu = s.cu ∧
      u.ring.counts = (s.arrive t).ring.counts ∧ (∀ c : Chan, u.rcd c = s.rcd c)

/-- An ACTIVE node that is asked nothing raises its alert lines in the header, whether a walk begins in it or not (R120, R159), no protected
word being bad: bit k of H1 goes out set if it came in set or a pending class is routed to line k; the other words stay, and the header check
is computed again (R122). That the classes pending once the mark is handled and the walk has begun count, and that the lines are read for a
frame that is not lost alone, are the model's choices, log 8 and log 46. -/
def Obligations.ActiveNodeRaisesItsAlertLines : Prop :=
  ∀ (t : Nat) (h : Vector Word 13) (s : State) (f : Frame), s.passing t f → f.phase = .awaiting → f.rx.isPrefixOf h.toList = true → headerGood h = true →
    hdrKind h[0] = 0 → s.ring.participation = .active → (s.ring.address = 0 ∨ (reqOf h).target ≠ s.ring.address) → s.quiet →
    f.lost = false →
    ∃ u g, exec (.headerCheck t h) s = .next u ∧ u.ring.frame = some g ∧ g.phase = .cycle ∧ g.active = true ∧
      g.rx = h.toList ∧ g.path = f.path ∧ g.tx.length = 13 ∧
      (∀ k : Nat, k < 32 → ((g.tx.getD 1 0).getLsbD k = true ↔
        h[1].getLsbD k = true ∨ 0 < k ∧ ∃ i : Fin 16, u.svc.events.pending[i].isSome = true ∧ u.svc.events.alert[i].line = k)) ∧
      (∀ k : Nat, k < 12 → k ≠ 1 → g.tx.getD k 0 = h.toList.getD k 0) ∧
      carriedCheck (g.tx.getD 12 0) = headerCrc (g.tx.take 12) ∧
      field (g.tx.getD 12 0) 15 0 = field h[12] 15 0 ∧
      (s.walker.state ≠ .ready → u.walker = s.walker) ∧ u.cu = s.cu ∧ u.links = s.links ∧ u.share = s.share ∧ u.pending = s.pending

/-- A mark's phase error lies in its range and differs from the target's distance by whole cycles (R60); in FREE the next boundary
jumps to the first instant of the target's pattern after now (R61); in ACQUIRE, LOCKED and HOLDOVER it moves by at most the slew
limit, unless that would put it before now (R62). -/
def Obligations.MarkMovesTheNextBoundary : Prop :=
  ∀ (b : Timebase) (stamp now : Nat), 0 < b.lenInUse →
    let target : Int := (stamp : Int) - b.ringDelay / 10 - 31 + b.offset
    let r := b.mark stamp now
    let e := r.2.2
    r.1.lastError = e ∧ 2 * e ≤ b.lenInUse ∧ -(b.lenInUse : Int) < 2 * e ∧
      (b.lenInUse : Int) ∣ target - b.nextBoundary - e ∧
      (b.state = .free →
        r.1.state = .acquire ∧ now < r.1.nextBoundary ∧ r.1.nextBoundary ≤ now + b.lenInUse ∧
          (b.lenInUse : Int) ∣ r.1.nextBoundary - target) ∧
      (b.state ≠ .free →
        (r.1.nextBoundary : Int) = max (now : Int) (b.nextBoundary + max (-(b.slew : Int)) (min (b.slew : Int) e)))

/-- The lock runs (R63, R65): eight marks within the window lock, four beyond it lose lock, and a mark in HOLDOVER starts the
acquisition afresh, counted itself as the first. A good CYCLE header is the mark (R119), whether a walk begins in it or not, and its loss
of lock raises SYNC_LOST with the phase error (R63). The jump of a mark in FREE drops the period events of the cycle in progress that would
fall at or after the rescheduled boundary, and keeps all others (R61, R69). That the mark that ends HOLDOVER is noted for the next boundary
is DEDUCED, log 28, and so is that an event of an earlier cycle is kept, log 39. -/
def Obligations.LockRunsDecideTheState : Prop :=
  (∀ (b : Timebase) (stamp now : Nat),
    let r := b.mark stamp now
    let inside := r.2.2.natAbs ≤ b.lockWindow
    (b.state = .acquire → inside → b.inRun + 1 = 8 → r.1.state = .locked ∧ r.1.inRun = 0 ∧ r.1.outRun = 0 ∧ r.2.1 = false) ∧
    (b.state = .acquire → inside → b.inRun + 1 ≠ 8 → r.1.state = .acquire ∧ r.1.inRun = b.inRun + 1 ∧ r.2.1 = false) ∧
    (b.state = .acquire → ¬ inside → r.1.state = .acquire ∧ r.1.inRun = 0 ∧ r.2.1 = false) ∧
    (b.state = .locked → inside → r.1.state = .locked ∧ r.1.outRun = 0 ∧ r.2.1 = false) ∧
    (b.state = .locked → ¬ inside → b.outRun + 1 ≠ 4 → r.1.state = .locked ∧ r.1.outRun = b.outRun + 1 ∧ r.2.1 = false) ∧
    (b.state = .locked → ¬ inside → b.outRun + 1 = 4 → r.1.state = .acquire ∧ r.1.inRun = 0 ∧ r.1.outRun = 0 ∧ r.2.1 = true) ∧
    (b.state = .holdover → b.inRun = 0 →
      r.1.state = .acquire ∧ (inside → r.1.inRun = 1) ∧ (¬ inside → r.1.inRun = 0) ∧
        r.1.holdCount = 0 ∧ r.1.missRun = 0 ∧ r.1.syncFault = b.syncFault ∧ r.2.1 = false) ∧
    r.1.missRun = 0 ∧ r.1.markNoted = true ∧ r.1.marksTaken = bump b.marksTaken) ∧
  (∀ (t : Nat) (h : Vector Word 13) (s : State) (f : Frame), s.passing t f → f.phase = .awaiting → f.rx.isPrefixOf h.toList = true →
    headerGood h = true → hdrKind h[0] = 0 → (s.ring.address = 0 ∨ (reqOf h).target ≠ s.ring.address) → s.quiet →
    ∃ u, exec (.headerCheck t h) s = .next u ∧
      let r := s.tb.mark f.stamp (max s.now t)
      let place := EventClass.syncLost.place
      u.tb = r.1 ∧
      (s.ring.participation = .passive ∨ s.walker.state ≠ .ready →
        u.svc = if r.2.1 then s.svc.entered .syncLost (detail r.2.2 0) else s.svc) ∧
      u.svc.events.pending[place] =
        (if r.2.1 then s.svc.entered .syncLost (detail r.2.2 0) else s.svc).events.pending[place] ∧
      (s.tb.state ≠ .free → u.channels = s.channels) ∧
      (s.tb.state = .free → ∀ c : Chan, u.chan c = { s.chan c with hid := { s.hid c with
        events := (s.hid c).events.filter fun e =>
          decide (e.boundary ≠ s.tb.lastBoundary ∨ e.time < u.tb.nextBoundary) } }) ∧
      (∀ c : Chan, u.rcd c = s.rcd c))

/-- Payload words that no walk is acting on pass forwarded as received (R115, R117, R118, R130): no walk is in progress, the frame found the
node PASSIVE or is no CYCLE frame, or the walk in progress waits for a word that lies elsewhere, and goes on waiting. -/
def Obligations.UnwalkedPayloadPassesAsReceived : Prop :=
  ∀ (t : Nat) (words : List Word) (s : State) (f : Frame), s.passing t f → f.phase ≠ .awaiting → f.lost = false → f.area = [] →
    f.rx.length + words.length ≤ 13 + hdrPayload (f.rx.getD 0 0) →
    let x := s.heard t
    let asReceived : Prop := exec (.walkEntry t words) s = .next
      { x with ring := { x.ring with frame := some { f with
          rx := f.rx ++ words, times := f.times ++ List.replicate words.length x.now, tx := f.tx ++ words } } }
    (s.walker.state ≠ .walking → asReceived) ∧
    (f.active = false ∨ f.phase ≠ .cycle → asReceived) ∧
    (s.walker.state = .walking → 13 ≤ f.rx.length →
      (∀ k < words.length, (s.walker.entry s.walker.cur).offset ≠ f.rx.length + k - 13) → asReceived)

/-- A good CYCLE header at an ACTIVE node begins a walk if the walker is READY with a map (R129), and the walk judges its entries in
index order: END ends it (R136), an entry beyond the payload is counted and raised as SHORT (R131), one whose word has gone by as LATE
(R130), a test of the cycle number is made at once (R135), an uncorrectable entry halts the walk and empties the take buffer (R141),
and any other entry waits for its word. After each entry the walk ends with OVERRUN, LENGTH or WALK_LIMIT, or goes on (R136). A header that
asks this node hands its request to the responder behind the mark and before the walk (R119), so a MAP_ENABLE in it reaches the walker
first; that the request acts as its own row does, and the mark comes first, is log 3 and log 8, and that a BUSY reply has a count of 0 is
log 51. -/
def Obligations.AWalkBeginsAndJudgesItsEntries : Prop :=
  (∀ (t : Nat) (h : Vector Word 13) (s : State) (f : Frame), s.passing t f → f.phase = .awaiting → f.rx.isPrefixOf h.toList = true →
    headerGood h = true → hdrKind h[0] = 0 → s.ring.participation = .active →
    (s.ring.address = 0 ∨ (reqOf h).target ≠ s.ring.address) → s.quiet →
    ∃ u, exec (.headerCheck t h) s = .next u ∧
      let w := s.walker
      let e := w.entry 0
      let begun := { w.counts with begun := bump w.counts.begun }
      (w.state ≠ .ready ∨ w.len = 0 → u.walker = w) ∧
      (w.state = .ready → 0 < w.len → u.walker.counts.begun = bump w.counts.begun) ∧
      (w.state = .ready → 0 < w.len → e.action = .endWalk →
        u.walker = { w with
          state := .ready, lastEnd := .endEntry, lastCount := 0, pos := none, executed := 0, cur := 0, counts := begun }) ∧
      (w.state = .ready → 0 < w.len → e.action ≠ .endWalk → e.offset < hdrPayload h[0] → e.offset ≠ 1023 →
        u.walker = { w with state := .walking, pos := none, executed := 0, cur := 0, counts := begun })) ∧
  (∀ (t : Nat) (h : Vector Word 13) (s : State) (f : Frame), s.passing t f → f.phase = .awaiting → f.rx.isPrefixOf h.toList = true →
    headerGood h = true → hdrKind h[0] = 0 → s.ring.address ≠ 0 → (reqOf h).target = s.ring.address →
    ∃ u, exec (.headerCheck t h) s = .next u ∧
      let r := reqOf h
      let x := s.heard t
      let asked := (({ x with resp := { s.resp with formed := none } } : State).takeMark f.stamp).request r
      let active := s.ring.participation = .active
      u.resp = asked.resp ∧ u.tb = asked.tb ∧ u.channels = asked.channels ∧ u.links = asked.links ∧ u.cu = asked.cu ∧
      u.share = asked.share ∧ u.ring = { asked.ring with frame := u.ring.frame } ∧
      u.walker = (if active then (asked.beginWalk (hdrPayload h[0]) (hdrCycle h[0])).walker else asked.walker) ∧
      (¬ active → u.svc = asked.svc) ∧
      (s.takesNew r → u.resp.memory = u.resp.formed.map fun rep => (memoryKey r, rep)) ∧
      (s.resp.state = .waiting → u.resp.formed = some (s.replyWith r .busy [])) ∧
      (WellFormed (.mapEnable t r) = true → s.takesNew r → 0 < s.walker.len →
        s.walker.state = .disabled ∨ s.walker.state = .halted →
        u.resp.formed = some (s.replyWith r .ok []) ∧
        (¬ active → u.walker = { s.walker with state := .ready }) ∧
        (active → u.walker.counts.begun = bump s.walker.counts.begun))) ∧
  (∀ (s : State) (n cycle i : Nat), s.quiet →
    let w := s.walker
    let e := w.entry i
    let j := s.judgeEntry n cycle i
    let next := if e.action = .skipUnless then i + 1 + e.skip else i + 1
    let byNumber := e.action = .skipUnless ∧ e.offset = 1023
    let late : Prop := ∃ p, w.pos = some p ∧ e.offset < p
    (e.action = .endWalk → j = (false, { s with walker := { w with
      state := .ready, lastEnd := .endEntry, lastCount := w.executed, pos := none, executed := 0, cur := 0 } })) ∧
    (byNumber →
      let x := { s with walker := { w with executed := w.executed + 1 } }
      (BitVec.ofNat 16 cycle &&& e.mask = e.value → j = x.walkTest i (i + 1) false) ∧
      (BitVec.ofNat 16 cycle &&& e.mask ≠ e.value → j = x.walkTest i (i + 1 + e.skip) true)) ∧
    (e.action ≠ .endWalk → ¬ byNumber → n ≤ e.offset →
      j = ({ s with
        walker := { w with counts := { w.counts with short := bump w.counts.short } }
        svc := s.svc.entered .shortFrame (detail i 0) } : State).walkTest i next (decide (e.action = .skipUnless))) ∧
    (e.action ≠ .endWalk → ¬ byNumber → e.offset < n → late →
      j = ({ s with
        walker := { w with counts := { w.counts with late := bump w.counts.late } }
        svc := s.svc.entered .mapLimit (detail 0 i) } : State).walkTest i next (decide (e.action = .skipUnless))) ∧
    (e.action ≠ .endWalk → ¬ byNumber → e.offset < n → ¬ late → j = (false, s))) ∧
  (∀ (s : State) (n cycle i : Nat), i < 128 → s.svc.flawAt { mem := .map, index := i, word := 0 } = some .double ∨
      s.svc.flawAt { mem := .map, index := i, word := 1 } = some .double →
    let w := s.walker
    (s.judgeEntry n cycle i).1 = false ∧ (s.judgeEntry n cycle i).2.walker = { w with
      state := .halted, lastEnd := .halt, lastCount := w.executed, pos := none, executed := 0, cur := 0, takes := {}
      counts := { w.counts with halts := bump w.counts.halts } }) ∧
  (∀ (s : State) (i next : Nat) (skipped : Bool), s.quiet →
    let w := s.walker
    let ended (e : LastEnd) : Walker := { w with
      state := .ready, lastEnd := e, lastCount := w.executed, pos := none, executed := 0, cur := 0 }
    let limited (e : LastEnd) (cause index : Nat) : State := { s with
      walker := { ended e with counts := { w.counts with limited := bump w.counts.limited } }
      svc := s.svc.entered .mapLimit (detail cause index) }
    (skipped = true → w.len < next → s.walkTest i next skipped = (false, limited .overrun 2 i)) ∧
    (w.len ≤ next → (skipped = false ∨ next = w.len) → s.walkTest i next skipped = (false, { s with walker := ended .length })) ∧
    (next < w.len → w.limit ≤ w.executed → s.walkTest i next skipped = (false, limited .walkLimit 1 next)) ∧
    (next < w.len → w.executed < w.limit → s.walkTest i next skipped = (true, { s with walker := { w with cur := next } })))

/-- Any entry of a map done at its word (R130, R132 to R136): a PUT or PUT_NODE writes its item into the word forwarded, a TAKE or
TAKE_NODE stages its value, the received word is kept for the check, and the walk ends with LENGTH after the last entry or waits for
the word of the next one. A SKIP_UNLESS tests the low half of its word and goes on behind it or behind the entries it skips (R135). Of two
entries at one word the second sees what the first has written: the last put stands, and a TAKE stages the put value (R130, R133). -/
def Obligations.PutAndTakeEntriesAct : Prop :=
  ∀ (t : Nat) (w : Word) (s : State) (f : Frame), s.passing t f → f.phase = .cycle → f.active = true → f.lost = false →
    13 ≤ f.rx.length → f.rx.length < 13 + hdrPayload (f.rx.getD 0 0) → s.walker.state = .walking → s.quiet →
    let off := f.rx.length - 13
    let e := s.walker.entry s.walker.cur
    let m := s.walker.entry (s.walker.cur + 1)
    let last := s.walker.cur + 1 = s.walker.len
    let later (e : MapEntry) : Prop := e.action ≠ .endWalk ∧ off < e.offset ∧ e.offset < hdrPayload (f.rx.getD 0 0) ∧ e.offset ≠ 1023
    let waits := s.walker.cur + 1 < s.walker.len ∧ s.walker.executed + 1 < s.walker.limit ∧ later m
    let x := s.heard t
    let passed (out : Word) : Ring := { x.ring with frame := some { f with
      rx := f.rx ++ [w], times := f.times ++ [x.now], tx := f.tx ++ [out] } }
    let item (e : MapEntry) : Word :=
      let fb := (s.status e.chan).fb
      match e.item with
      | 0 => toWord fb.iq
      | 1 => toWord fb.id
      | 2 => toWord fb.iqRef
      | 3 => toWord fb.idRef
      | 4 => toWord fb.vd
      | 5 => toWord fb.vq
      | 6 => toWord fb.u
      | 7 => toWord fb.theta
      | 8 => toWord fb.omega
      | 9 => toWord fb.p
      | 10 => toWord (s.status e.chan).grant
      | _ => stateWord (s.status e.chan)
    let nodeItem : Word := if e.item = 0 then nodeStatusWord s.tb .walking s.svc.events else shareStatusWord s.share
    let out : Word := if e.action = .put then item e else if e.action = .putNode then nodeItem else w
    e.offset = off →
    (e.action = .take ∨ e.action = .put ∨ e.action = .takeNode ∨ e.action = .putNode → last ∨ waits →
      ∃ u, exec (.walkEntry t [w]) s = .next u ∧
        (∀ c : Chan, c ≠ e.chan ∨ e.action ≠ .take → u.walker.takes.chan[c] = s.walker.takes.chan[c]) ∧
        u.walker.takes.supply = (if e.action = .takeNode then some (field w 19 0) else s.walker.takes.supply) ∧
        (e.action = .take →
          let old := s.walker.takes.chan[e.chan]
          let new := u.walker.takes.chan[e.chan]
          let v := some (BitVec.setWidth 16 w).toInt
          new.iq = (if e.item = 0 then v else old.iq) ∧ new.id = (if e.item = 1 then v else old.id) ∧
            new.vd = (if e.item = 2 then v else old.vd) ∧ new.vq = (if e.item = 3 then v else old.vq) ∧
            (e.item = 4 → new.request = some (BitVec.setWidth 4 w)) ∧ (e.item < 4 → new.request = old.request)) ∧
        (last → u.walker = { s.walker with
          takes := u.walker.takes
          state := .ready, lastEnd := .length, lastCount := s.walker.executed + 1, pos := none, executed := 0, cur := 0 }) ∧
        (waits → u.walker = { s.walker with
          takes := u.walker.takes, pos := some off, executed := s.walker.executed + 1, cur := s.walker.cur + 1 }) ∧
        u = { x with ring := passed out, walker := u.walker }) ∧
    (e.action = .skipUnless →
      let skips := BitVec.setWidth 16 w &&& e.mask ≠ e.value
      let next := if skips then s.walker.cur + 1 + e.skip else s.walker.cur + 1
      let r := { x with walker := { s.walker with pos := some off, executed := s.walker.executed + 1 } }.walkTest
        s.walker.cur next (decide skips)
      (r.1 = true → later (s.walker.entry next)) → exec (.walkEntry t [w]) s = .next { r.2 with ring := passed w }) ∧
    (e.action = .put → m.action = .put ∨ m.action = .take ∧ m.item = 0 → m.offset = off → s.walker.cur + 2 = s.walker.len →
      s.walker.executed + 1 < s.walker.limit →
      let taken (k : ChanTakes) : ChanTakes := { k with iq := some (BitVec.setWidth 16 (item e)).toInt }
      exec (.walkEntry t [w]) s = .next { x with
        ring := passed (if m.action = .put then item m else item e)
        walker := { s.walker with
          takes := if m.action = .put then s.walker.takes else { s.walker.takes with
            chan := s.walker.takes.chan.set m.chan (taken s.walker.takes.chan[m.chan]) }
          state := .ready, lastEnd := .length, lastCount := s.walker.executed + 2, pos := none, executed := 0, cur := 0 } })

/-- An empty reply area takes the ready reply, else the reply formed for this frame, laid out as 6.4 gives (R149, R150), and passes as
received if there is none; an occupied one is forwarded as received: with no reply formed nothing else happens, and in HOLDING the ready
reply waits on; a BUSY or PENDING reply is dropped, any other is deferred and puts the responder in HOLDING (R149). That a reply formed for
the frame that carries the ready one counts as dropped is DEDUCED, log 18. -/
def Obligations.ReplyAreaCarriesTheReply : Prop :=
  (∀ (t : Nat) (area : Vector Word 9) (s : State) (f : Frame) (rep : Reply), s.passing t f → f.phase = .cycle → f.lost = false →
    f.rx.length = 13 + hdrPayload (f.rx.getD 0 0) → f.area = [] → field area[0] 31 26 = 0 → rep.count ≤ 8 →
    rep.data.length = rep.count → (s.resp.ready = some rep ∨ s.resp.ready = none ∧ s.resp.formed = some rep) →
    ∃ u q, exec (.replyArea t area) s = .next u ∧ q.length = 9 ∧
      field (q.getD 0 0) 31 26 = rep.addr.toNat ∧ field (q.getD 0 0) 25 18 = rep.tag.toNat ∧
      field (q.getD 0 0) 17 14 = rep.status.code ∧ field (q.getD 0 0) 13 10 = rep.count ∧
      (∀ i : Nat, i < 8 → q.getD (i + 1) 0 = rep.data.getD i 0) ∧
      u.resp.formed = none ∧ u.resp.ready = none ∧
      (s.resp.ready = some rep → u.resp.state = .idle) ∧ (s.resp.ready = none → u.resp.state = s.resp.state) ∧
      u.resp.flight = s.resp.flight ∧ u.resp.memory = s.resp.memory ∧
      u.resp.counts = (if s.resp.ready.isSome = true ∧ s.resp.formed.isSome = true then
        { s.resp.counts with dropped := bump s.resp.counts.dropped } else s.resp.counts) ∧
      (let x := s.heard t
       u = { x with
        ring := { x.ring with frame := some { f with
          rx := f.rx ++ area.toList, times := f.times ++ List.replicate 9 x.now, tx := f.tx ++ q } }
        resp := u.resp })) ∧
  (∀ (t : Nat) (area : Vector Word 9) (s : State) (f : Frame), s.passing t f → f.phase = .cycle → f.lost = false →
    f.rx.length = 13 + hdrPayload (f.rx.getD 0 0) → f.area = [] →
    let x := s.heard t
    let asReceived : State := { x with
      ring := { x.ring with frame := some { f with
        rx := f.rx ++ area.toList, times := f.times ++ List.replicate 9 x.now, tx := f.tx ++ area.toList } } }
    (field area[0] 31 26 ≠ 0 → s.resp.formed = none → exec (.replyArea t area) s = .next asReceived) ∧
    (field area[0] 31 26 = 0 → s.resp.ready = none → s.resp.formed = none → exec (.replyArea t area) s = .next asReceived) ∧
    (∀ rep, field area[0] 31 26 ≠ 0 → s.resp.formed = some rep →
      exec (.replyArea t area) s = .next { asReceived with
        resp :=
          if rep.status = .busy ∨ rep.status = .pending then
            { s.resp with formed := none, counts := { s.resp.counts with dropped := bump s.resp.counts.dropped } }
          else
            { s.resp with
              formed := none, ready := some rep, state := .holding
              counts := { s.resp.counts with deferred := bump s.resp.counts.deferred } } }))

/-- A good frame check commits the staged values (R25, R138): each channel's incoming values and fresh mark in every state, the supply
limit and the counters; the buffer is empty, and the check forwarded is computed over the words forwarded (R121, R122). A frame
that fails its frame check commits nothing (R25). A staged request code reaches its channel's latch and acts there (R7), a leader
before its follower (R8), so both of a pair can be started by one frame. -/
def Obligations.GoodCheckCommitsTheTakes : Prop :=
  ∀ (t : Nat) (w : Word) (order : List Chan) (s : State) (f : Frame), s.passing t f → f.phase = .cycle → f.area = [] →
    f.rx.length = f.payload + 22 → s.resp.resetOrdered = false → s.walker.takes ≠ {} →
    ∃ u, exec (.frameCheck t w true order) s = .next u ∧
      (w ≠ frameCrc f.rx → u.channels = s.channels ∧ u.share = s.share) ∧
      (w = frameCrc f.rx →
        (f.lost = false → f.tx.length = f.rx.length →
          u.ring.forwarded = some { path := f.path, words := f.tx ++ [frameCrc f.tx] }) ∧
        u.walker.counts.commits = bump s.walker.counts.commits ∧
        u.share = { s.share with supply := s.walker.takes.supply.getD s.share.supply } ∧
        (∀ c : Chan,
          let k := s.walker.takes.chan[c]
          let set := k.iq.isSome || k.id.isSome
          (u.hid c).iqIn = k.iq.getD (s.hid c).iqIn ∧ (u.hid c).idIn = k.id.getD (s.hid c).idIn ∧
            (u.hid c).vdIn = k.vd.getD (s.hid c).vdIn ∧ (u.hid c).vqIn = k.vq.getD (s.hid c).vqIn ∧
            (u.hid c).fresh = ((s.hid c).fresh || set) ∧
            (u.chan c).counts.setpoints =
              (if set then bump (s.chan c).counts.setpoints else (s.chan c).counts.setpoints)) ∧
        u.ring.counts = (s.arrive t).ring.counts ∧
        (s.quiet → ∀ c : Chan,
          let code := s.walker.takes.chan[c].request
          let runs (d : Chan) : Prop := s.walker.takes.chan[d].request = some 2 ∧ (s.status d).state = .ready ∧
            (s.status d).latch ≠ .run ∧ ∃ rep, (s.link d).report = some rep ∧ (s.rcd d).tuning.uMin ≤ rep.u.toNat
          (u.status c).latch = (match code with
            | none => (s.status c).latch
            | some v => requestOf v) ∧
          (code = some 3 → (s.status c).state = .running → s.partner c = none →
            (u.status c).state = .stopping ∧ (u.hid c).stopKind = .halt) ∧
          (runs c → s.partner c = none → (s.rcd c).setup.role ≠ .follower → (u.status c).state = .running) ∧
          (∀ q : Chan, runs c → runs q → s.partner c = some q → (s.rcd c).setup.role = .follower →
            (u.status q).state = .running ∧ (u.status c).state = .running))) ∧
      u.ring.frame = none ∧ u.walker.takes = {} ∧ u.tb = s.tb ∧ u.pending = s.pending

/-- A bad frame check discards the staged values (R121, R139): no channel, link, timebase, job or share sees anything of the frame,
FRAME_DAMAGED is raised and the check forwarded is spoiled. An end symbol anywhere but directly after the last word of a frame with a
good header is a bad frame check (R117, R121). Words that come with the end symbol pass as the same words do before it. That the
reply formed for a frame cut short is lost without a count is the model's reading, log 38, and that the word in the place of F goes out
spoiled where more words follow it is the model's too, log 6, and so is that a walk in progress ends at a length fault's end symbol, log 50. -/
def Obligations.BadCheckReachesNobody : Prop :=
  (∀ (t : Nat) (w : Word) (order : List Chan) (s : State) (f : Frame), s.passing t f → f.phase = .cycle ∨ f.phase = .reset →
     f.lost = false → f.area = [] → f.tx.length = f.rx.length → f.rx.length = f.payload + 22 → w ≠ frameCrc f.rx →
     s.resp.resetOrdered = false →
     let z := s.arrive t
     ∃ u, exec (.frameCheck t w true order) s = .next u ∧ u.now = max s.now t ∧
       u.ring.frame = none ∧ u.ring.forwarded = some { path := f.path, words := f.tx ++ [~~~ frameCrc f.tx] } ∧
       u.ring.counts = { z.ring.counts with checkFail := bump s.ring.counts.checkFail } ∧
       u.walker = s.walker.discarded ∧
       u.svc = s.svc.raise .frameDamaged (detail (hdrKind (f.rx.getD 0 0)) (hdrCycle (f.rx.getD 0 0))) ∧
       u = { s with now := u.now, ring := u.ring, walker := u.walker, svc := u.svc, resp := { s.resp with formed := none } }) ∧
  (∀ (t : Nat) (order : List Chan) (s : State) (f : Frame), s.passing t f → f.phase = .cycle ∨ f.phase = .reset →
     f.rx.length ≠ hdrPayload (f.rx.getD 0 0) + 23 → f.lost = false → s.resp.resetOrdered = false →
     let z := s.arrive t
     let whole := hdrPayload (f.rx.getD 0 0) + 23
     ∃ u, exec (.endSymbol t [] order) s = .next u ∧ u.now = max s.now t ∧
       u.ring.frame = none ∧
       (f.tx.length < whole → u.ring.forwarded = some { path := f.path, words := f.tx }) ∧
       (whole < f.tx.length → u.ring.forwarded = some {
         path := f.path, words := f.tx.take (whole - 1) ++ [~~~ frameCrc (f.tx.take (whole - 1))] ++ f.tx.drop whole }) ∧
       u.ring.counts = { z.ring.counts with checkFail := bump s.ring.counts.checkFail } ∧
       u.walker.takes = {} ∧ u.walker.state ≠ .walking ∧
       u.svc = s.svc.raise .frameDamaged (detail (hdrKind (f.rx.getD 0 0)) (hdrCycle (f.rx.getD 0 0))) ∧
       u = { s with now := u.now, ring := u.ring, walker := u.walker, svc := u.svc, resp := { s.resp with formed := none } }) ∧
  (∀ (t : Nat) (words : List Word) (order : List Chan) (s : State) (f : Frame), s.passing t f → f.phase ≠ .awaiting →
     (f.rx.length + words.length ≤ 13 + hdrPayload (f.rx.getD 0 0) → ∃ v, exec (.walkEntry t words) s = .next v ∧
       exec (.endSymbol t words order) s = .next (v.finishFrame order)) ∧
     (∀ w, f.rx.length + 1 = hdrPayload (f.rx.getD 0 0) + 23 →
       exec (.endSymbol t [w] order) s = exec (.frameCheck t w true order) s))

/-! ## The boundary (3.4, 1.7, 3.3, 5.2) -/

/-- A scheduled boundary falls and the next one is scheduled a cycle length later (R59, R61, R68); it reaches neither the ring, the
walker, the responder, nor the job queue and the job in service (R68). No protected word being bad, each channel that is not OFF
generates the N period events of the new cycle behind those still to come (R69), and the link of each OFF channel is handed a
keep-alive record (R5, R80), sent at once if its line is free (R78). -/
def Obligations.BoundarySchedulesTheNext : Prop :=
  ∀ (order : List Chan) (s : State), ∃ u, exec (.cycleBoundary order) s = .next u ∧
    u.now = max s.now s.tb.nextBoundary ∧ u.tb.lastBoundary = s.tb.nextBoundary ∧
    u.tb.nextBoundary = s.tb.nextBoundary + s.tb.cycleLen ∧ u.tb.lenInUse = s.tb.cycleLen ∧
    u.tb.cycleLen = s.tb.cycleLen ∧ u.tb.offset = s.tb.offset ∧ u.tb.ringDelay = s.tb.ringDelay ∧ u.tb.slew = s.tb.slew ∧
    u.tb.markNoted = false ∧ u.tb.marksTaken = s.tb.marksTaken ∧
    u.ring = s.ring ∧ u.walker = s.walker ∧ u.resp = s.resp ∧ u.cu = s.cu ∧ u.pending = s.pending ∧
    (∀ c : Chan, (u.rcd c).setup = (s.rcd c).setup ∧ (u.rcd c).tuning = (s.rcd c).tuning ∧
      (u.chan c).held = (s.chan c).held ∧ (u.chan c).counts = (s.chan c).counts) ∧
    (s.quiet → ∀ c : Chan,
      let h := s.hid c
      let l := s.link c
      let m := u.link c
      ((s.status c).state ≠ .off →
        (u.hid c).events = h.events ++ (List.range h.effN).map (fun j =>
          { j := j, time := s.tb.nextBoundary + h.effOffset + j * h.effP, boundary := s.tb.nextBoundary }) ∧ m = l) ∧
      ((s.status c).state = .off →
        (u.hid c).events = h.events ∧
        (l.sending = none → ∃ q, m.sending = some q ∧ q.keepAlive = true ∧ q.gates = false ∧ q.cmp = l.cmp ∧
          q.seq = l.seq + 1 ∧ q.endsAt = u.now + (if q.pass.isSome then 160 else 96)) ∧
        (l.sending.isSome = true → m = { l with waiting := some .keepAlive })))

/-- The setpoint hand-off of a boundary (R26), no protected word being bad: with the fresh mark the incoming values are handed over;
without it the endpoints hold, and a RUNNING channel counts a miss, raising SETPOINT_MISS at the first, and above its limit enters a
fault stop with COMM_LOSS (R20). The RUNNING partner of its valid pair then stops too, with the code PARTNER (R24). -/
def Obligations.BoundaryHandsOverSetpoints : Prop :=
  (∀ (order : List Chan) (s : State) (c : Chan), s.quiet → ∃ u, exec (.cycleBoundary order) s = .next u ∧
    let x := s.status c
    let y := u.status c
    let h := s.hid c
    let run (d : Chan) : Nat := min ((s.status d).missRun + 1) 255
    let stops (d : Chan) : Prop := (s.status d).state = .running ∧ (s.hid d).fresh = false ∧ (s.rcd d).tuning.missLimit < run d
    let alone := ∀ q : Chan, s.partner c = some q → ¬ stops q
    (u.hid c).fresh = false ∧ y.iqPrev = x.iqCur ∧ y.idPrev = x.idCur ∧
    (h.fresh = true → y.iqCur = h.iqIn ∧ y.idCur = h.idIn ∧ y.vdFf = h.vdIn ∧ y.vqFf = h.vqIn ∧ y.missRun = 0) ∧
    (h.fresh = false → y.iqCur = x.iqCur ∧ y.idCur = x.idCur ∧ y.vdFf = x.vdFf ∧ y.vqFf = x.vqFf ∧
      (x.state ≠ .running → y.missRun = x.missRun) ∧
      (x.state = .running → alone →
        y.missRun = run c ∧
        (run c ≤ (s.rcd c).tuning.missLimit → y.state = .running ∧ y.fault = x.fault) ∧
        ((s.rcd c).tuning.missLimit < run c → y.state = .stopping ∧ y.fault = .commLoss ∧ (u.hid c).stopKind = .fault) ∧
        (x.missRun = 0 → s.svc.events.alert[EventClass.setpointMiss.place].enable = true →
          u.svc.events.pending[EventClass.setpointMiss.place].isSome = true))) ∧
    (x.state = .running → ¬ alone → y.state = .stopping ∧ (y.fault = .partner ∨ y.fault = .commLoss) ∧
      (u.hid c).stopKind = .fault) ∧
    y.accD = x.accD ∧ y.accQ = x.accQ ∧ y.fb = x.fb ∧ y.latch = x.latch) ∧
  (∀ (s : State) (c : Chan), s.quiet → (s.hid c).fresh = false → (s.status c).state = .running →
    let run := min ((s.status c).missRun + 1) 255
    let u := s.handoff c
    let missed := if (s.status c).missRun = 0 then s.svc.entered .setpointMiss (detail c.val 0) else s.svc
    let lost := missed.entered .channelFault (detail c.val 10)
    (run ≤ (s.rcd c).tuning.missLimit → u.svc = missed ∧ ∀ d : Chan, d ≠ c → u.chan d = s.chan d) ∧
    ((s.rcd c).tuning.missLimit < run →
      (u.status c).state = .stopping ∧ (u.status c).fault = .commLoss ∧
      (s.partner c = none → u.svc = lost) ∧
      (∀ q, s.partner c = some q → (s.status q).state = .running →
        u.status q = { s.status q with state := .stopping, fault := .partner } ∧ (u.hid q).stopKind = .fault ∧
        u.svc = lost.entered .channelFault (detail q.val 11)) ∧
      (∀ d : Chan, d ≠ c → s.partner c ≠ some d ∨ (s.status d).state ≠ .running → u.chan d = s.chan d)))

/-- The timebase's own work at a boundary (R64, R65): the miss test in ACQUIRE and LOCKED, the holdover count, nothing in FREE. The entry
into HOLDOVER raises SYNC_HOLDOVER with the state it leaves (R64), no protected word being bad. HOLDOVER_TIMEOUT is the boundary that
ends HOLDOVER in FREE (log 4). -/
def Obligations.BoundaryTestsForMarks : Prop :=
  ∀ (order : List Chan) (s : State), ∃ u, exec (.cycleBoundary order) s = .next u ∧
    (s.tb.state = .free → u.tb.state = .free ∧ u.tb.marksMissed = s.tb.marksMissed ∧ u.tb.missRun = s.tb.missRun) ∧
    ((s.tb.state = .acquire ∨ s.tb.state = .locked) →
      (s.tb.markNoted = true → u.tb.state = s.tb.state ∧ u.tb.missRun = s.tb.missRun ∧ u.tb.inRun = s.tb.inRun ∧
        u.tb.marksMissed = s.tb.marksMissed) ∧
      (s.tb.markNoted = false → u.tb.missRun = s.tb.missRun + 1 ∧ u.tb.marksMissed = bump s.tb.marksMissed ∧
        u.tb.outRun = s.tb.outRun ∧ (s.tb.state = .acquire → u.tb.inRun = 0) ∧
        (s.tb.missRun + 1 = 2 → u.tb.state = .holdover ∧ u.tb.holdCount = 0 ∧ u.tb.syncFault = true) ∧
        (s.tb.missRun + 1 ≠ 2 → u.tb.state = s.tb.state ∧ u.tb.syncFault = s.tb.syncFault))) ∧
    (s.tb.state = .holdover → s.tb.holdCount < 65535 →
      (s.tb.holdCount + 1 ≤ s.tb.holdLimit → u.tb.state = .holdover ∧ u.tb.holdCount = s.tb.holdCount + 1) ∧
      (s.tb.holdLimit < s.tb.holdCount + 1 → u.tb.state = .free ∧ u.tb.holdCount = 0 ∧ u.tb.inRun = 0 ∧ u.tb.outRun = 0 ∧
        u.tb.missRun = 0 ∧ u.tb.syncFault = s.tb.syncFault ∧ exec (.holdoverTimeout order) s = .next u)) ∧
    (s.quiet →
      let place := EventClass.syncHoldover.place
      let enters := (s.tb.state = .acquire ∨ s.tb.state = .locked) ∧ s.tb.markNoted = false ∧ s.tb.missRun + 1 = 2
      let left : Nat := if s.tb.state = .acquire then 1 else 2
      u.svc.events.pending[place] =
        if enters ∧ s.svc.events.alert[place].enable = true then
          match s.svc.events.pending[place] with
          | none => some { detail := detail left 0, count := 1 }
          | some p => some { p with count := min (p.count + 1) 255 }
        else s.svc.events.pending[place])

/-- The budget event of a boundary (R99 to R103), no protected word being bad: the demands and the regeneration are those of the RUNNING
and STOPPING channels, each grant is the factor of its channel's rank, and over all channels the demand times the granted factor never
exceeds the supply limit plus the regeneration counted (R102). BUDGET_LIMIT is raised where the share becomes restricted (R103). With
the share disabled every factor is 1 and no figure stands (R102). -/
def Obligations.GrantsNeverExceedTheSupply : Prop :=
  (∀ (order : List Chan) (s : State), s.quiet → (∀ c : Chan, (s.rcd c).tuning.rank ≤ 3) →
    ∃ u, exec (.cycleBoundary order) s = .next u ∧
      let part (c : Chan) : Prop := (s.status c).state = .running ∨ (s.status c).state = .stopping
      let power (c : Chan) : Int := (s.status c).fb.p * (s.rcd c).setup.weight / 4096
      let demand (c : Chan) : Nat := if part c then (power c).toNat else 0
      let ofRank (r : Nat) : Nat := ((chans.filter fun c => decide ((s.rcd c).tuning.rank = r)).map demand).sum
      let back : Nat := (chans.map fun c => if part c then (-power c).toNat else 0).sum
      let regen : Nat := if s.share.credit then back else 0
      let a := allocate (s.share.supply + regen) ofRank
      (s.share.enable = true →
        u.share = { s.share with
          restricted := a.cut.isSome, remaining := a.left, regen := regen, cutRank := a.cut.getD 4
          demands := Vector.ofFn fun r : Fin 4 => ofRank r.val
          budgets := bump s.share.budgets
          restrictedBudgets := if a.cut.isSome then bump s.share.restrictedBudgets else s.share.restrictedBudgets } ∧
        (∀ c : Chan, (u.status c).grant = if part c then a.factors.getD (s.rcd c).tuning.rank 0 else 32767) ∧
        (chans.map fun c => demand c * (u.status c).grant / 32767).sum ≤ s.share.supply + regen) ∧
      (s.share.enable = false →
        u.share = { s.share with
          restricted := false, remaining := 0, regen := 0, cutRank := 4, demands := Vector.replicate 4 0 } ∧
        (∀ c : Chan, (u.status c).grant = 32767))) ∧
  (∀ s : State, s.quiet →
    let x := s.budget.share
    let a := allocate (s.share.supply + x.regen) fun r => x.demands.toList.getD r 0
    (s.share.enable = true → s.share.restricted = false → x.restricted = true →
      s.budget.svc = s.svc.entered .budgetLimit (detail x.cutRank (a.factors.getD x.cutRank 0))) ∧
    (s.share.enable = false ∨ s.share.restricted = true ∨ x.restricted = false → s.budget.svc = s.svc))

/-- The allocation rank by rank (R101): a rank is served whole while the power lasts, the first one it does not reach is cut pro rata,
and the later ones receive 0. -/
def Obligations.AllocationServesRanksInOrder : Prop :=
  ∀ (avail : Nat) (demand : Nat → Nat) (r : Nat), r < 4 →
    let a := allocate avail demand
    let before := ((List.range r).map demand).sum
    let upTo := ((List.range (r + 1)).map demand).sum
    let whole := ((List.range 4).map demand).sum
    (upTo ≤ avail → a.factors.getD r 0 = 32767) ∧
    (before ≤ avail → avail < upTo → a.factors.getD r 0 = (avail - before) * 32767 / demand r ∧ a.cut = some r ∧ a.left = 0) ∧
    (avail < before → a.factors.getD r 0 = 0) ∧
    (whole ≤ avail → a.cut = none ∧ a.left = avail - whole)

/-! ## Period events, windows, reports, jobs (3.4 to 3.6, 4.3) -/

/-- A period event falls (R69, R70, R81), no protected word being bad: it takes its number, opens the report window with its job's
figures and expected echo, and is counted in CALIBRATING and STOPPING (R11, R22). A window it finds open expires first, with a
SAMPLE_MISS and a job without a report (R70, R82), here behind a job in service; that the count comes after both is log 8. -/
def Obligations.PeriodEventOpensTheWindow : Prop :=
  ∀ (c : Chan) (s : State) (e : PeriodEvent) (rest : List PeriodEvent), s.quiet → (s.hid c).events = e :: rest →
    let opened (u : State) : Prop :=
      u.now = max s.now e.time ∧
      (u.hid c).events = rest ∧ (u.hid c).periodCount = (s.hid c).periodCount + 1 ∧
      (u.link c).window = some {
        period := (s.hid c).periodCount, j := e.j, time := e.time, deadline := e.time + (s.hid c).effDeadline
        expected := (s.link c).sentSeq } ∧
      (u.link c).lastSync = .period ∧
      ((s.status c).state = .calibrating → (u.hid c).calPeriods = (s.hid c).calPeriods + 1) ∧
      ((s.status c).state = .stopping → (u.hid c).stopPeriods = (s.hid c).stopPeriods + 1) ∧
      (∀ d : Chan, d ≠ c → u.chan d = s.chan d ∧ u.link d = s.link d) ∧
      u = { s with now := u.now, channels := u.channels, links := u.links, cu := u.cu, svc := u.svc }
    let uncounted := (s.status c).state ≠ .calibrating ∧ (s.status c).state ≠ .stopping
    ((s.link c).window = none → ∃ u, exec (.periodEvent c) s = .next u ∧ opened u ∧
      (uncounted → u.rcd c = s.rcd c ∧ u.svc = s.svc ∧ u.cu = s.cu)) ∧
    (∀ w, (s.link c).window = some w → s.cu.service.isSome = true → (∀ k ∈ s.cu.queue, k.chan ≠ c) →
      let j : Job := { chan := c, period := w.period, j := w.j, time := w.time, deadline := w.deadline, report := none }
      ∃ u, exec (.periodEvent c) s = .next u ∧ opened u ∧ u.cu.queue = s.cu.queue ++ [j] ∧
        (u.link c).counts = { (s.link c).counts with missWindow := bump (s.link c).counts.missWindow } ∧
        (uncounted → u.rcd c = s.rcd c ∧ u.svc = s.svc.entered .sampleMiss (detail c.val 0) ∧ u.cu.service = s.cu.service))

/-- The period event that reaches a limit: the 257th since ARM finds the channel CALIBRATING and faults it with the code CALIBRATION,
the offsets kept (R12); the one that reaches the stop time limit ends the stop, READY after a halt stop, FAULTED with the code kept
after a fault stop, the loop state at 0 and a gate-off record at once (R22). That these commands are that very event is DEDUCED,
log 4; that a CALIBRATION fault leaves the partner of a valid pair as it was is DEDUCED, log 29. -/
def Obligations.PeriodLimitsEndCalibrationAndStop : Prop :=
  (∀ (c : Chan) (s : State) (e : PeriodEvent) (rest : List PeriodEvent), s.quiet → (s.hid c).events = e :: rest →
     (s.link c).window = none → (s.status c).state = .calibrating → (s.hid c).calPeriods = 256 →
     ∃ u, exec (.calibrationTimeout c) s = .next u ∧
       u.status c = { s.status c with state := .faulted, fault := .calibration } ∧
       u.svc = s.svc.entered .channelFault (detail c.val 12) ∧
       (∀ d : Chan, d ≠ c → u.chan d = s.chan d ∧ u.link d = s.link d) ∧
       u = { s with now := max s.now e.time, channels := u.channels, links := u.links, cu := u.cu, svc := u.svc }) ∧
  (∀ (c : Chan) (s : State) (e : PeriodEvent) (rest : List PeriodEvent), s.quiet → (s.hid c).events = e :: rest →
     (s.link c).window = none → (s.status c).state = .stopping →
     (s.rcd c).tuning.stopLimit ≤ (s.hid c).stopPeriods + 1 →
     ∃ u, exec (.stopTimeLimit c) s = .next u ∧
       u.status c = { s.status c with
         state := if (s.hid c).stopKind = .fault then .faulted else .ready
         accD := 0, accQ := 0, idFw := 0 } ∧
       (u.hid c).stopKind = .none ∧ (u.hid c).rampQ = 0 ∧ (u.hid c).rampD = 0 ∧
       ((s.link c).sending = none → ∃ r, (u.link c).sending = some r ∧ r.gates = false ∧ r.keepAlive = false ∧
         r.seq = (s.link c).seq + 1 ∧ r.cmp = (s.link c).cmp) ∧
       ((s.link c).sending.isSome = true → (u.link c).waiting = some .gateOff ∧ (u.link c).sending = (s.link c).sending) ∧
       (∀ d : Chan, d ≠ c → u.chan d = s.chan d ∧ u.link d = s.link d) ∧ u.svc = s.svc)

/-- An open window that expires raises SAMPLE_MISS, counts it, and creates a job without a report (R70, R82): it queues behind a job
in service, or is taken by the free unit, as a blind job of a RUNNING or STOPPING channel, whose fault checks look at the angle-invalid run count
alone (R18), and as a measurement job of any other (R28, R72). An older job of
the channel still queued is dropped as an overrun (R71), and a job that cannot finish by its deadline is abandoned (R72), each with
JOB_LATE; for a RUNNING or STOPPING channel each raises the degraded run count, and above its limit the channel takes PERIOD_LOSS,
its RUNNING partner the code PARTNER (R20, R24). -/
def Obligations.WindowExpiryMakesAJob : Prop :=
  ∀ (c : Chan) (s : State) (w : Window), s.quiet → (s.link c).window = some w →
    let now := max s.now (w.time + (s.hid c).effWindow)
    let j : Job := { chan := c, period := w.period, j := w.j, time := w.time, deadline := w.deadline, report := none }
    let x := { s with now := now, svc := s.svc.entered .sampleMiss (detail c.val 0) }.onLink c fun l =>
      { l with window := none, counts := { l.counts with missWindow := bump l.counts.missWindow } }
    let works := (s.status c).state = .running ∨ (s.status c).state = .stopping
    let run := min ((s.status c).degradedRun + 1) 255
    let faulted (u : State) (code : FaultCode) (v : Services) : Prop :=
      (u.status c).state = .faulted ∧ (u.status c).fault = code ∧
      (s.partner c = none → u.svc = v.entered .channelFault (detail c.val code.code)) ∧
      (∀ q, s.partner c = some q → (s.status q).state = .running →
        u.status q = { s.status q with state := .stopping, fault := .partner } ∧
        u.svc = (v.entered .channelFault (detail c.val code.code)).entered .channelFault (detail q.val 11))
    let late (u : State) (cause : Nat) : Prop :=
      let v := x.svc.entered .jobLate (detail c.val cause)
      (works → (s.rcd c).tuning.degradedLimit < run → faulted u .periodLoss v) ∧
      (works → run ≤ (s.rcd c).tuning.degradedLimit →
        u.status c = { s.status c with degradedRun := run } ∧ u.hid c = s.hid c ∧ u.svc = v) ∧
      (¬ works → u.status c = s.status c ∧ u.svc = v)
    (s.cu.service.isSome = true → (∀ k ∈ s.cu.queue, k.chan ≠ c) →
      exec (.reportWindowExpiry c) s = .next { x with cu := { s.cu with queue := s.cu.queue ++ [j] } }) ∧
    (s.cu.service.isSome = true → (∃ k ∈ s.cu.queue, k.chan = c) →
      ∃ u, exec (.reportWindowExpiry c) s = .next u ∧
        u.cu.queue = s.cu.queue.filter (fun k => decide (k.chan ≠ c)) ++ [j] ∧
        (u.chan c).counts = { (s.chan c).counts with overrun := bump (s.chan c).counts.overrun } ∧ late u 0) ∧
    (s.cu.service = none → s.cu.queue = [] → w.deadline < now + 150 →
      ∃ u, exec (.reportWindowExpiry c) s = .next u ∧ u.cu = s.cu ∧
        (u.chan c).counts = { (s.chan c).counts with abandoned := bump (s.chan c).counts.abandoned } ∧ late u 1) ∧
    (s.cu.service = none → s.cu.queue = [] → now + 150 ≤ w.deadline →
      let begun (v : Service) : Prop := v.job = j ∧ v.left = false ∧ v.startedAt = now
      (¬ works ∨ (s.status c).angleRun ≤ (s.rcd c).tuning.angleGrace →
        ∃ v, begun v ∧ v.kind = (if works then .blind else .measurement) ∧ v.blocked = false ∧
          v.state0 = (s.status c).state ∧ v.record = s.rcd c ∧ v.hid = s.hid c ∧
          exec (.reportWindowExpiry c) s = .next { x with cu := { queue := [], service := some v } }) ∧
      (works → (s.rcd c).tuning.angleGrace < (s.status c).angleRun →
        ∃ u v, exec (.reportWindowExpiry c) s = .next u ∧ u.cu = { queue := [], service := some v } ∧
          begun v ∧ v.blocked = true ∧ faulted u .angleLost x.svc))

/-- A report with a good line check, good parity and the expected echo (or the waiver) closes the open window and creates the job that
carries it (R70, R81, R82, R84), behind the job in service; bad parity or another echo is a SAMPLE_MISS with its cause, and the job
carries no report (R82). Without a window a report is late after a period's sync symbol (R83), no sample, and its was-reset and its
pass-through reply are used (R83, R84): a reply that names the register in flight ends the pass-through OK or DENIED and is handed to
the responder, any other is stray (R91), in the report that closes a window as in one without. That a final reply without data, of a WRITE or DENIED,
has a count of 0 is the model's, log 51. -/
def Obligations.ReportsAreRouted : Prop :=
  let gives (t : Nat) (c : Chan) (pathGood : Bool) (r : StageReport) (s : State) (services : Services) (queue : List Job)
      (f : Link → Link) : Prop :=
    exec (.stageReport t c true pathGood r) s = .next
      ({ s with
        now := max s.now t
        cu := { s.cu with queue := queue }
        svc := { services with integ := { services.integ with parity := s.svc.integ.parity.set c false } } }.onLink c fun l =>
        f { l with present := true, lastSymbol := max s.now t })
  (∀ (t : Nat) (c : Chan) (pathGood : Bool) (r : StageReport) (s : State) (w : Window), (s.link c).window = some w →
    s.cu.service.isSome = true → (∀ k ∈ s.cu.queue, k.chan ≠ c) →
    let j : Job := { chan := c, period := w.period, j := w.j, time := w.time, deadline := w.deadline, report := some r }
    let queue := s.cu.queue ++ [{ j with report := none }]
    (pathGood ≠ s.svc.integ.parity[c] → (s.link c).waiver = true ∨ r.echo = w.expected → r.reply = none →
      gives t c pathGood r s s.svc (s.cu.queue ++ [j]) fun l =>
        { l with window := none, waiver := false, note := r.wasReset, report := some r }) ∧
    (s.quiet → pathGood ≠ s.svc.integ.parity[c] → (s.link c).waiver = false → r.echo ≠ w.expected → r.reply = none →
      gives t c pathGood r s (s.svc.entered .sampleMiss (detail c.val 2)) queue fun l =>
        { l with
          window := none, waiver := false, note := r.wasReset
          counts := { l.counts with missEcho := bump l.counts.missEcho } }) ∧
    (s.quiet → pathGood = s.svc.integ.parity[c] →
      gives t c pathGood r s (s.svc.entered .sampleMiss (detail c.val 1)) queue fun l =>
        { l with
          window := none, waiver := false
          counts := { l.counts with parity := bump l.counts.parity, missParity := bump l.counts.missParity } }) ∧
    (∀ a, pathGood ≠ s.svc.integ.parity[c] → r.reply = some a →
      let meets := (s.link c).waiver = true ∨ r.echo = w.expected
      let counts := if meets then (s.link c).counts else { (s.link c).counts with missEcho := bump (s.link c).counts.missEcho }
      (∀ p, (s.link c).pass = some p → p.started = true → p.req.reg = a.reg → ∀ q, s.resp.flight = some q →
        let data : List Word := if a.accepted = true ∧ p.req.write = false then [BitVec.setWidth 32 a.data] else []
        let rep := s.replyWith q (if a.accepted then .ok else .denied) data
        ∃ u, exec (.stageReport t c true pathGood r) s = .next u ∧ (u.link c).pass = none ∧ (u.link c).window = none ∧
          (u.link c).note = r.wasReset ∧ (u.link c).report = (if meets then some r else (s.link c).report) ∧
          (u.link c).counts = counts ∧
          u.resp = { s.resp with
            state := .holding, flight := none, ready := some rep, memory := some (memoryKey q, rep) } ∧
          u.cu = { s.cu with queue := if meets then s.cu.queue ++ [j] else queue } ∧ u.channels = s.channels) ∧
      ((∀ p, (s.link c).pass = some p → p.started = false ∨ p.req.reg ≠ a.reg) →
        ∃ u, exec (.stageReport t c true pathGood r) s = .next u ∧ (u.link c).pass = (s.link c).pass ∧ (u.link c).window = none ∧
          (u.link c).note = r.wasReset ∧ (u.link c).report = (if meets then some r else (s.link c).report) ∧
          (u.link c).counts = { counts with stray := bump counts.stray } ∧ u.resp = s.resp ∧
          u.cu = { s.cu with queue := if meets then s.cu.queue ++ [j] else queue } ∧ u.channels = s.channels))) ∧
  (∀ (t : Nat) (c : Chan) (pathGood : Bool) (r : StageReport) (s : State), (s.link c).window = none →
    let late (k : LinkCounts) : LinkCounts := if (s.link c).lastSync = .period then { k with late := bump k.late } else k
    (pathGood = s.svc.integ.parity[c] →
      gives t c pathGood r s s.svc s.cu.queue fun l =>
        { l with counts := { late l.counts with parity := bump l.counts.parity } }) ∧
    (pathGood ≠ s.svc.integ.parity[c] → r.reply = none →
      gives t c pathGood r s s.svc s.cu.queue fun l => { l with note := r.wasReset, counts := late l.counts }) ∧
    (∀ a, pathGood ≠ s.svc.integ.parity[c] → r.reply = some a →
      (∀ p, (s.link c).pass = some p → p.started = true → p.req.reg = a.reg → ∀ q, s.resp.flight = some q →
        let data : List Word := if a.accepted = true ∧ p.req.write = false then [BitVec.setWidth 32 a.data] else []
        let rep := s.replyWith q (if a.accepted then .ok else .denied) data
        ∃ u, exec (.stageReport t c true pathGood r) s = .next u ∧ (u.link c).pass = none ∧
          (u.link c).report = (s.link c).report ∧ (u.link c).counts = late (s.link c).counts ∧
          u.resp = { s.resp with
            state := .holding, flight := none, ready := some rep, memory := some (memoryKey q, rep) } ∧
          u.cu = s.cu ∧ u.channels = s.channels) ∧
      ((∀ p, (s.link c).pass = some p → p.started = false ∨ p.req.reg ≠ a.reg) →
        gives t c pathGood r s s.svc s.cu.queue fun l =>
          { l with note := r.wasReset, counts := { late l.counts with stray := bump l.counts.stray } })))

/-- The fault checks at the start of service of a RUNNING or STOPPING channel's job, in their order (R18, R28): a report with was-reset,
a desaturation, an overcurrent, an overvoltage, an undervoltage or the angle grace exceeded faults the channel at once, its gates go off
(R5) and the job computes nothing; an overtemperature makes a fault stop of RUNNING or of a halt stop (R19), nothing of a fault stop, and
the job goes on in it; CHANNEL_FAULT carries the code (R19), and the RUNNING partner of a valid pair enters a fault stop with the code
PARTNER (R24). In READY a report with was-reset alone faults the channel (R13, R18). An uncorrectable word of the record comes before
them all: INTEGRITY, a channel read to be FAULTED keeping its code (R18). An uncorrectable state word shows no state: it gives INTEGRITY with
fresh state and code (R166), and that the gates then go off and the loop state is cleared whatever the state was is the model's choice,
log 11; that an overtemperature which turns a halt stop into a fault stop reaches the RUNNING partner too is the model's inference,
log 29. -/
def Obligations.FaultChecksStopAJob : Prop :=
  ∀ (t : Nat) (c : Chan) (pathGood : Bool) (r : StageReport) (s : State) (w : Window), (s.link c).window = some w →
    pathGood ≠ s.svc.integ.parity[c] → (s.link c).waiver = true ∨ r.echo = w.expected → r.reply = none →
    s.cu = { queue := [], service := none } → max s.now t + 150 ≤ w.deadline →
    let y := (s.rcd c).tuning
    let x := s.status c
    let works := x.state = .running ∨ x.state = .stopping
    let began (u : State) (v : Service) (kind : JobKind) : Prop :=
      exec (.stageReport t c true pathGood r) s = .next u ∧ u.cu = { queue := [], service := some v } ∧
      v.job.chan = c ∧ v.job.report = some r ∧ v.kind = kind ∧ v.startedAt = max s.now t
    let closed (u : State) : Prop :=
      ((s.link c).sending = none → ∃ q, (u.link c).sending = some q ∧ q.gates = false ∧ q.cmp = (s.link c).cmp) ∧
      ((s.link c).sending.isSome = true → (u.link c).waiting = some .gateOff)
    let faults (code : FaultCode) : Status :=
      if works then { x with state := .faulted, fault := code, accD := 0, accQ := 0, idFw := 0 }
      else { x with state := .faulted, fault := code }
    (s.quiet → works →
      let above (raw : BitVec 16) (off : Int) : Prop :=
        (y.trip : Int) < max (-32767) (min 32767 (raw.toInt - off)) ∨
          max (-32767) (min 32767 (raw.toInt - off)) < -(y.trip : Int)
      let run := if r.angleValid then 0 else min (x.angleRun + 1) 255
      let code : FaultCode :=
        if r.wasReset then .stageReset
        else if r.desat then .gateDesat
        else if above r.ia x.offA ∨ above r.ib x.offB ∨ above r.ic x.offC then .overcurrent
        else if y.uMax < r.u.toNat then .overvoltage
        else if r.u.toNat < y.uMin then .undervoltage
        else if (y.tempLimit : Int) < r.temp.toInt then .overtemp
        else if y.angleGrace < run then .angleLost
        else .none
      let reacts := code ≠ .none ∧ (code = .overtemp → x.state = .running ∨ (s.hid c).stopKind = .halt)
      ∃ u v, began u v .normal ∧ v.left = false ∧
        (code = .none → v.blocked = false ∧ v.state0 = x.state) ∧
        (code = .overtemp → v.blocked = false ∧ v.state0 = .stopping) ∧
        (¬ reacts → u.channels = s.channels ∧ u.svc.events = s.svc.events) ∧
        (code = .overtemp → reacts →
          u.status c = { x with state := .stopping, fault := .overtemp } ∧ (u.hid c).stopKind = .fault) ∧
        (code ≠ .none → code ≠ .overtemp → v.blocked = true ∧ u.status c = faults code ∧
          (u.hid c).stopKind = .none ∧ closed u) ∧
        (reacts → s.partner c = none → u.svc.events = (s.svc.entered .channelFault (detail c.val code.code)).events) ∧
        (∀ q, s.partner c = some q → reacts → (s.status q).state = .running →
          u.status q = { s.status q with state := .stopping, fault := .partner } ∧ (u.hid q).stopKind = .fault ∧
          u.svc.events = ((s.svc.entered .channelFault (detail c.val code.code)).entered .channelFault
            (detail q.val 11)).events) ∧
        (∀ d : Chan, d ≠ c → s.partner c ≠ some d ∨ (s.status d).state ≠ .running → u.chan d = s.chan d)) ∧
    (s.quiet → ¬ works →
      ∃ u v, began u v .measurement ∧ v.left = false ∧ v.blocked = false ∧ v.state0 = x.state ∧
        (x.state = .ready → r.wasReset = true → u.status c = faults .stageReset ∧
          (s.partner c = none → u.svc.events = (s.svc.entered .channelFault (detail c.val 6)).events)) ∧
        (x.state ≠ .ready ∨ r.wasReset = false → u.channels = s.channels ∧ u.svc.events = s.svc.events)) ∧
    (∀ i : Fin 68, s.svc.integ.flaws = [((chanLoc c i.val).key, .double)] → s.svc.integ.kind = none →
      let known := i.val ≠ 35
      ∃ u v, began u v (if known ∧ works then .normal else .measurement) ∧ v.blocked = true ∧
        u.svc.integ.uncCapture = some (chanLoc c i.val) ∧
        (known → x.state = .faulted → u.channels = s.channels) ∧
        (known → x.state ≠ .faulted → u.status c = faults .integrity) ∧
        (¬ known → u.status c = { x with state := .faulted, fault := .integrity, accD := 0, accQ := 0, idFw := 0 } ∧
          u.svc.flawAt (chanLoc c 35) = none) ∧
        (works ∨ ¬ known → closed u) ∧
        (i.val ≠ 4 → i.val ≠ 5 → s.partner c = none →
          let fatal := s.svc.entered .integrityFatal (detail 0 (c.val * 65536 + i.val))
          u.svc.integ.uncorrectable = min (s.svc.integ.uncorrectable + 1) 65535 ∧
          u.svc.events = (if known ∧ x.state = .faulted then fatal else fatal.entered .channelFault (detail c.val 7)).events))

/-- Presence follows the line (R77), a report with a bad line check is only counted (R81), settling ends by time alone (R86), and a
pass-through not ended 2 ms after it was taken ends with TIMEOUT, handed to the responder as its ready reply (R92, R150, R152). The
line check is an operand, log 21; that the final reply TIMEOUT has a count of 0 is the model's, log 51. -/
def Obligations.PresenceAndTimersFollowTheLine : Prop :=
  (∀ (t : Nat) (c : Chan) (s : State),
     exec (.stageSymbol t c) s = .next ({ s with now := max s.now t }.onLink c fun l =>
       { l with present := true, lastSymbol := max s.now t }) ∧
     ((s.link c).present = true →
       exec (.stageSilence c) s = .next ({ s with now := max s.now ((s.link c).lastSymbol + 200) }.onLink c fun l =>
         { l with present := false })) ∧
     (∀ (pathGood : Bool) (r : StageReport),
       exec (.stageReport t c false pathGood r) s = .next ({ s with now := max s.now t }.onLink c fun l =>
         { l with
           present := true, lastSymbol := max s.now t
           counts := { l.counts with damaged := bump l.counts.damaged } }))) ∧
  (∀ (c : Chan) (s : State),
     (∀ t : Nat, (s.link c).settling = .untilTick t →
       exec (.settlingEnd c) s = .next ({ s with now := max s.now t }.onLink c fun l => { l with settling := .none })) ∧
     (∀ (p : PassThrough) (r : ReqArea), (s.link c).pass = some p → s.resp.flight = some r →
       exec (.passThroughTimeout c) s = .next ({ s with
         now := max s.now p.timeout
         resp := { s.resp with
           state := .holding, flight := none, ready := some (s.replyWith r .timeout [])
           memory := some (memoryKey r, s.replyWith r .timeout []) } }.onLink c fun l =>
         { l with pass := none, counts := { l.counts with timeouts := bump l.counts.timeouts } })))

/-- A record has been sent (R78, R79, R86): it is counted, its sequence is the one to be echoed, a waiting record starts at once with
the next sequence, and the reset mark starts the 20 ms of settling. The sync symbol of a keep-alive follows its last symbol, so it is then
the last one that the link has sent, by which a report without a window is a keep-alive report (R80, R81); behind a record of a job and a
gate-off record the last sync symbol stays the one it was (R83). The record started takes with it a pass-through request that waits (R90),
and the link remembers its sequence, compare values and gates (R79). Its acknowledge reads the state of the channel where the was-reset note
is set (R87, R165). That a further reset waiting keeps settling as it stands is DEDUCED, log 37. -/
def Obligations.SentRecordFreesTheLine : Prop :=
  ∀ (c : Chan) (s : State) (r : DutyRecord), (s.link c).sending = some r → ∃ u, exec (.stageRecordSent c) s = .next u ∧
    let l := s.link c
    let m := u.link c
    u.now = max s.now r.endsAt ∧ m.sentSeq = r.seq ∧ m.counts = { l.counts with sent := bump l.counts.sent } ∧
    (r.keepAlive = true → m.lastSync = .keepAlive) ∧ (r.keepAlive = false → m.lastSync = l.lastSync) ∧
    (r.resetMark = true → l.resetWaiting = false → m.settling = .untilTick (max s.now r.endsAt + 2000000)) ∧
    (r.resetMark = false ∨ l.resetWaiting = true → m.settling = l.settling) ∧
    (l.waiting = none → m.sending = none ∧ m.waiting = none ∧ m.seq = l.seq ∧ m.cmp = l.cmp ∧ m.gates = l.gates ∧
      m.resetWaiting = l.resetWaiting ∧ m.pass = l.pass) ∧
    (∀ src, l.waiting = some src → ∃ q, m.sending = some q ∧ m.waiting = none ∧
      q.seq = l.seq + 1 ∧ m.seq = q.seq ∧ m.cmp = q.cmp ∧ m.gates = q.gates ∧
      (∀ cmp gates, src = .job cmp gates → q.cmp = cmp ∧ q.gates = gates ∧ q.keepAlive = false) ∧
      (src = .gateOff → q.gates = false ∧ q.cmp = l.cmp ∧ q.keepAlive = false) ∧
      (src = .keepAlive → q.gates = false ∧ q.cmp = l.cmp ∧ q.keepAlive = true) ∧
      q.resetMark = l.resetWaiting ∧ m.resetWaiting = false ∧
      (s.quiet ∨ l.note = false → q.ack = (decide ((s.status c).state = .calibrating) && l.note)) ∧
      q.endsAt = max s.now r.endsAt + (if q.pass.isSome then 160 else 96) ∧
      (l.pass = none → q.pass = none ∧ m.pass = none) ∧
      (∀ p, l.pass = some p → q.pass = (if p.started then none else some p.req) ∧ m.pass = some { p with started := true })) ∧
    m = { l with
      sending := m.sending, waiting := m.waiting, seq := m.seq, cmp := m.cmp, gates := m.gates, sentSeq := m.sentSeq
      resetWaiting := m.resetWaiting, settling := m.settling, pass := m.pass, lastSync := m.lastSync, counts := m.counts } ∧
    (∀ d : Chan, d ≠ c → u.link d = s.link d) ∧ (s.quiet ∨ l.note = false ∨ l.waiting = none → u.svc = s.svc) ∧
    u = { s with now := u.now, links := u.links, svc := u.svc }

/-- The completion of a normal job (R55, R73), with nothing queued or traced: the record takes the results of the period computation,
the history its angle, speed and period number, and the duty record its compare values with the gates as the state has them then (R5).
In a stop the ramp values move on, and with both at 0 and the measured iq within the zero threshold the stop ends: READY after a halt
stop, FAULTED with the code kept after a fault stop (R22). The exchange writes held for the job are applied after its results, in the
order they were taken, an id_fw below a new id_fw_min raised to it (R1, R49). The id_fw it noted as used is the one it read, log 13. A
job that began in RUNNING and completes in STOPPING is left out: its ending is log 14. What a queue adds to a completion is the first clause
of JobsEndByTheirKind. -/
def Obligations.NormalJobStoresItsResults : Prop :=
  ∀ (s : State) (v : Service) (rep : StageReport), s.quiet → s.cu = { queue := [], service := some v } → v.kind = .normal →
    v.blocked = false → v.left = false → v.state0 = .running ∨ v.state0 = .stopping → v.job.report = some rep →
    let c := v.job.chan
    (s.status c).state = v.state0 → s.svc.trace.state = .idle →
    let stop := decide (v.state0 = .stopping)
    let n := normalJob v.record v.hid stop v.job.period v.job.j v.leaderIq rep
    let done := v.state0 = .stopping ∧ n.rampQ = 0 ∧ n.rampD = 0 ∧ n.fb.iq.natAbs ≤ (s.rcd c).tuning.zeroThreshold
    let results : Status := { s.status c with
      accD := n.accD, accQ := n.accQ, idFw := n.idFw, degradedRun := 0, angleRun := n.angleRun, fb := n.fb }
    let status : Status := if done then { results with
        state := if (s.hid c).stopKind = .fault then .faulted else .ready
        accD := 0, accQ := 0, idFw := 0 }
      else results
    let gates := decide (¬ done)
    ∃ u, exec .jobComplete s = .next u ∧ u.now = max s.now (v.startedAt + 150) ∧
      ((s.chan c).held = [] → u.rcd c = { s.rcd c with status := status }) ∧
      (let applied (k : Record) (ps : List (Nat × Int)) : Record :=
         let k1 := k.putAll ps
         if 18 ∈ ps.map Prod.fst then { k1 with status := { k1.status with idFw := max k1.status.idFw k1.tuning.idFwMin } } else k1
       u.rcd c = (s.chan c).held.foldl applied { s.rcd c with status := status }) ∧
      (∀ lo, (s.chan c).held = [[(18, lo)]] → u.rcd c = {
        setup := (s.rcd c).setup, tuning := { (s.rcd c).tuning with idFwMin := lo }
        status := { status with idFw := max status.idFw lo } }) ∧
      (u.chan c).held = [] ∧
      (v.state0 = .running → u.hid c = { s.hid c with
        thetaPrev := n.fb.theta, omega := n.fb.omega, histPeriod := v.job.period, firstJob := false
        usedIdFw := v.record.status.idFw }) ∧
      (v.state0 = .stopping → (u.hid c).thetaPrev = n.fb.theta ∧ (u.hid c).omega = n.fb.omega ∧
        (u.hid c).histPeriod = v.job.period ∧
        (done → (u.hid c).stopKind = .none ∧ (u.hid c).rampQ = 0 ∧ (u.hid c).rampD = 0 ∧ (u.hid c).rampsSet = false) ∧
        (¬ done → (u.hid c).stopKind = (s.hid c).stopKind ∧ (u.hid c).rampQ = n.rampQ ∧ (u.hid c).rampD = n.rampD ∧
          (u.hid c).rampsSet = true)) ∧
      (u.chan c).counts = { (s.chan c).counts with completed := bump (s.chan c).counts.completed } ∧
      ((s.link c).sending = none → ∃ r, (u.link c).sending = some r ∧ r.cmp = n.fb.cmp ∧ r.gates = gates ∧
        r.seq = (s.link c).seq + 1) ∧
      ((s.link c).sending.isSome = true → (u.link c).waiting = some (.job n.fb.cmp gates)) ∧
      (∀ d : Chan, d ≠ c → u.chan d = s.chan d ∧ u.link d = s.link d) ∧
      u = { s with now := u.now, channels := u.channels, links := u.links, cu := {} }

/-- The completion of any job, 150 ticks after the start of its service, is the same whatever the queue holds (R73, R74); the unit, free then,
takes the heads of the queue at that moment, in the order of their creation: one that can finish by its deadline begins its service, one
that cannot is abandoned and the next is tried (R72, R73; `State.unitTakes`). So the clauses here and elsewhere that ask for an empty queue
say what a completion does beside any. A job that a fault check stopped, and a normal or blind job whose channel has left RUNNING and
STOPPING since, deliver nothing (R6, R28, R30): only the completion is counted, and the reference channel's is captured (R173). A blind job stores its
extrapolated angle and its compare values, and counts as degraded, in RUNNING and in STOPPING (R20, R56). A measurement job stores its
feedback and sends a record with the gates clear (R57); in CALIBRATING a valid sample adds to the sums, unless the channel has left
CALIBRATING (R6), and the 64th gives the offsets and ends the calibration (R11, R12, R58). That a channel that left counts as gone though
it came back is log 15, that a job begun before an ARM leaves the angle history is log 35, and that a CALIBRATION fault leaves the partner
as it was is log 29. -/
def Obligations.JobsEndByTheirKind : Prop :=
  (∀ (s : State) (v : Service) (queue : List Job), s.cu = { queue := queue, service := some v } →
     ∃ x u, exec .jobComplete { s with cu := { queue := [], service := some v } } = .next x ∧ x.cu = {} ∧
       x.now = max s.now (v.startedAt + 150) ∧ exec .jobComplete s = .next u ∧ x.unitTakes queue u) ∧
  (∀ (s : State) (v : Service) (queue : List Job), s.cu = { queue := queue, service := some v } →
     v.blocked = true ∨ v.left = true ∧ v.kind ≠ .measurement → (s.chan v.job.chan).held = [] →
     let z : State := { s with now := max s.now (v.startedAt + 150) }
     let captured := s.svc.trace.refChan = v.job.chan ∧ s.svc.trace.state ≠ .idle ∧ s.svc.trace.state ≠ .done
     let free := { (if captured then z.capture else z) with cu := {} }.onChan v.job.chan fun x =>
       { x with counts := { x.counts with completed := bump x.counts.completed } }
     ∃ u, exec .jobComplete s = .next u ∧ free.unitTakes queue u) ∧
  (∀ (s : State) (v : Service), s.quiet → s.cu = { queue := [], service := some v } → v.blocked = false →
     let c := v.job.chan
     (s.chan c).held = [] → s.svc.trace.state = .idle →
     let sends (u : State) (cmp : Compare) (gates : Bool) : Prop :=
       ((s.link c).sending = none → ∃ r, (u.link c).sending = some r ∧ r.cmp = cmp ∧ r.gates = gates ∧
         r.seq = (s.link c).seq + 1) ∧
       ((s.link c).sending.isSome = true → (u.link c).waiting = some (.job cmp gates))
     (v.kind = .blind → v.left = false → (s.status c).state = .running ∨ (s.status c).state = .stopping →
       let b := blindJob v.record v.hid v.job.period
       let n := min ((s.status c).degradedRun + 1) 255
       let x := { s.status c with
         degradedRun := n, fb := { (s.status c).fb with theta := b.theta, omega := b.omega, cmp := b.cmp } }
       let h := { s.hid c with thetaPrev := b.theta, omega := b.omega, histPeriod := v.job.period, firstJob := false }
       let lim := (s.rcd c).tuning.degradedLimit
       ∃ u, exec .jobComplete s = .next u ∧ u.cu = {} ∧
         (n ≤ lim → u.status c = x ∧ u.hid c = h ∧ u.svc = s.svc ∧ sends u b.cmp true) ∧
         (lim < n → u.status c = { x with state := .faulted, fault := .periodLoss, accD := 0, accQ := 0, idFw := 0 } ∧
           u.hid c = { h with stopKind := .none, rampQ := 0, rampD := 0, rampsSet := false } ∧
           (s.partner c = none → u.svc = s.svc.entered .channelFault (detail c.val 5)) ∧ sends u b.cmp false)) ∧
     (v.kind = .measurement →
       let m := measurementJob v.record v.hid v.job.period v.job.report (s.status c).fb
       let sample := if v.left then none else v.job.report.filter fun p => !p.wasReset
       let h := s.hid c
       ∃ u, exec .jobComplete s = .next u ∧ u.cu = {} ∧ sends u m.cmp false ∧
         (v.rearmed = false → (u.hid c).thetaPrev = m.theta ∧ (u.hid c).omega = m.omega ∧
           (u.hid c).histPeriod = v.job.period ∧ (u.hid c).firstJob = false) ∧
         (v.rearmed = true → (u.hid c).thetaPrev = h.thetaPrev ∧ (u.hid c).omega = h.omega ∧
           (u.hid c).histPeriod = h.histPeriod ∧ (u.hid c).firstJob = h.firstJob) ∧
         (v.state0 ≠ .calibrating ∨ sample = none →
           u.rcd c = { s.rcd c with status := { s.status c with fb := m } } ∧ (u.hid c).sumA = h.sumA ∧
             (u.hid c).sumB = h.sumB ∧ (u.hid c).sumC = h.sumC ∧ (u.hid c).calSamples = h.calSamples ∧ u.svc = s.svc) ∧
         (∀ p, v.state0 = .calibrating → sample = some p →
           (u.hid c).sumA = h.sumA + p.ia.toInt ∧ (u.hid c).sumB = h.sumB + p.ib.toInt ∧
           (u.hid c).sumC = h.sumC + p.ic.toInt ∧ (u.hid c).calSamples = h.calSamples + 1 ∧
           (h.calSamples + 1 ≠ 64 → u.rcd c = { s.rcd c with status := { s.status c with fb := m } } ∧ u.svc = s.svc) ∧
           (h.calSamples + 1 = 64 → (s.status c).state = .calibrating →
             let x := { s.status c with
               fb := m
               offA := (h.sumA + p.ia.toInt + 32) / 64, offB := (h.sumB + p.ib.toInt + 32) / 64
               offC := (h.sumC + p.ic.toInt + 32) / 64 }
             let lim := (s.rcd c).setup.offsetLimit
             let within := x.offA.natAbs ≤ lim ∧ x.offB.natAbs ≤ lim ∧ x.offC.natAbs ≤ lim
             (within → u.status c = { x with state := .ready } ∧ u.svc = s.svc) ∧
             (¬ within → u.status c = { x with state := .faulted, fault := .calibration } ∧
               u.svc = s.svc.entered .channelFault (detail c.val 12))))))

/-- A normal job keeps its limits: the applied references within the current circle (R43), the limited voltages within the voltage
limit (R46), the accumulators clamped (R47), and every compare value 0, P, or at least the minimum pulse away from both (R53). -/
def Obligations.NormalJobStaysInItsLimits : Prop :=
  ∀ (r : Record) (h : Hidden) (stopping : Bool) (period j : Nat) (leaderIq : Option Int) (rep : StageReport),
    let n := normalJob r h stopping period j leaderIq rep
    let l : Int := voltageLimit rep.u.toNat r.tuning.modLimit
    let inPulse (c : Nat) : Prop := c = 0 ∨ c = h.effP ∨ (r.tuning.cmin ≤ c ∧ c + r.tuning.cmin ≤ h.effP)
    n.fb.idRef * n.fb.idRef + n.fb.iqRef * n.fb.iqRef ≤ (r.tuning.imax : Int) * r.tuning.imax ∧
    n.fb.vd * n.fb.vd + n.fb.vq * n.fb.vq ≤ l * l ∧
    (r.status.accD.natAbs ≤ 2147418112 → n.accD.natAbs ≤ 2147418112) ∧
    (r.status.accQ.natAbs ≤ 2147418112 → n.accQ.natAbs ≤ 2147418112) ∧
    n.fb.id.natAbs ≤ 32767 ∧ n.fb.iq.natAbs ≤ 32767 ∧ n.fb.p.natAbs ≤ 32767 ∧
    inPulse n.fb.cmp.a ∧ inPulse n.fb.cmp.b ∧ inPulse n.fb.cmp.c


/-! ## Commands of the exchange (8.6) -/

/-- The commands without an argument (R66, R76, R94, R107, R125, R128, R143, R153, R154, R168, R174 to R176): each is answered and does
its effect alone; TRACE_ARM and TRACE_TRIGGER are DENIED where they do not act. NODE_RESET is only ordered here: it acts at the end of
its frame. CLEAR_COUNTERS clears its own count too (log 41). -/
def Obligations.NodeCommandsAct : Prop :=
  (∀ (t : Nat) (r : ReqArea) (s : State), s.takesNew r →
     let x := s.answered t r .ok []
     (WellFormed (.clearCounters t r) = true → ∃ u, exec (.clearCounters t r) s = .next u ∧
       (∀ c : Chan, u.chan c = { s.chan c with counts := {} } ∧ u.link c = { s.link c with counts := {} }) ∧
       u = { x with
         channels := u.channels, links := u.links
         tb := { s.tb with marksTaken := 0, marksMissed := 0 }
         share := { s.share with budgets := 0, restrictedBudgets := 0 }
         ring := { x.ring with counts := {} }
         walker := { s.walker with counts := {} }
         resp := { x.resp with counts := {} } }) ∧
     (WellFormed (.nodeReset t r) = true →
       exec (.nodeReset t r) s = .next { x with resp := { x.resp with resetOrdered := true } }) ∧
     (WellFormed (.mapEnable t r) = true →
       exec (.mapEnable t r) s = .next { x with walker := { s.walker with
         state := if s.walker.state = .disabled ∨ s.walker.state = .halted then .ready else s.walker.state } }) ∧
     (WellFormed (.mapDisable t r) = true →
       exec (.mapDisable t r) s = .next { x with walker := { s.walker with
         state := if s.walker.state = .ready ∨ s.walker.state = .halted then .disabled else s.walker.state } }) ∧
     (WellFormed (.syncClear t r) = true →
       exec (.syncClear t r) s = .next { x with tb := { s.tb with
         syncFault := if s.tb.state = .locked then false else s.tb.syncFault } }) ∧
     (WellFormed (.traceStop t r) = true →
       exec (.traceStop t r) s = .next { x with svc := { s.svc with trace := { s.svc.trace with state := .done } } }) ∧
     (WellFormed (.integrityClear t r) = true →
       exec (.integrityClear t r) s = .next { x with svc := { s.svc with integ := { s.svc.integ with
         corrected := 0, uncorrectable := 0, corrCapture := none, uncCapture := none } } })) ∧
  (∀ (t : Nat) (r : ReqArea) (s : State), s.takesNew r →
     let tr := s.svc.trace
     let onTrace (x : Trace) : State := { s.answered t r .ok [] with svc := { s.svc with trace := x } }
     (WellFormed (.traceArm t r) = true →
       (tr.state = .idle ∨ tr.state = .done → exec (.traceArm t r) s = .next (onTrace { tr with
         state := if tr.pre = 0 then .armed else .filling
         entries := [], next := 0, sample := 0, trigSample := 0, prevLane := none, postDone := 0 })) ∧
       (tr.state ≠ .idle → tr.state ≠ .done → exec (.traceArm t r) s = .next (s.answered t r .denied []))) ∧
     (WellFormed (.traceTrigger t r) = true →
       (tr.state = .filling ∨ tr.state = .armed → exec (.traceTrigger t r) s = .next (onTrace { tr with
         state := .post, trigSample := tr.sample, postDone := 0 })) ∧
       (tr.state ≠ .filling → tr.state ≠ .armed → exec (.traceTrigger t r) s = .next (s.answered t r .denied []))))

/-- A node reset that a frame ordered is applied at that frame's end, after its frame check (R3, R67, R75, R95, R109, R144, R153,
R155, R164, R171, R178): the timebase runs on, the settings stay but for a period offset that an
ARM committed with the frame lowers (R4, R138), and every channel is OFF. A channel that was RUNNING or STOPPING hands its link a
gate-off record (R3, R79), no protected word being bad; where the frame's own request turned it OFF, that is the one R16 asks for. That the
timebase keeps the note of a mark taken (R64) is the model's choice, log 49; the hidden items that the spec gives no power-on value have
the model's, log 13, 14 and 26. -/
def Obligations.OrderedResetActsAtTheFrameEnd : Prop :=
  ∀ (t : Nat) (w : Word) (order : List Chan) (s : State) (f : Frame), s.passing t f → f.phase = .cycle → f.lost = false →
    f.area = [] → f.tx.length = f.rx.length → f.rx.length = f.payload + 22 → s.resp.resetOrdered = true →
    ∃ u, exec (.frameCheck t w true order) s = .next u ∧ u.ring.frame = none ∧
      (∃ z : Word, u.ring.forwarded = some { path := f.path, words := f.tx ++ [z] } ∧
        z = if w = frameCrc f.rx then frameCrc f.tx else ~~~ frameCrc f.tx) ∧
      u.ring.address = s.ring.address ∧ u.ring.topology = s.ring.topology ∧ u.ring.participation = s.ring.participation ∧
      u.ring.counts = {} ∧
      ((∀ c : Chan, s.walker.takes.chan[c].request = none ∨
          (s.rcd c).setup.offset ≤ s.tb.cycleLen / (s.rcd c).setup.periods - 1) →
        ∀ c : Chan, (u.rcd c).setup = (s.rcd c).setup) ∧
      (∀ c : Chan, (u.rcd c).tuning = (s.rcd c).tuning ∧ u.status c = {} ∧ u.hid c = {} ∧ (u.chan c).held = [] ∧
        (u.link c).present = (s.link c).present ∧ (u.link c).pass = none ∧ (u.link c).report = none ∧
        (u.link c).window = none ∧ (u.link c).counts = {}) ∧
      (s.quiet → ∀ c : Chan,
        let l := s.link c
        let m := u.link c
        ((s.status c).state = .running ∨ (s.status c).state = .stopping →
          (l.sending = none → ∃ q, m.sending = some q ∧ q.gates = false ∧ q.keepAlive = false ∧ q.cmp = l.cmp ∧
            q.seq = l.seq + 1) ∧
          (l.sending.isSome = true → m.sending = l.sending ∧ m.waiting = some .gateOff)) ∧
        (s.walker.takes.chan[c].request = none → (s.status c).state ≠ .running → (s.status c).state ≠ .stopping →
          m.sending = l.sending ∧ m.waiting = l.waiting ∧ m.seq = l.seq)) ∧
      u.tb = { s.tb with marksTaken := 0, marksMissed := 0 } ∧ u.cu = {} ∧
      u.walker.state = .disabled ∧ u.walker.takes = {} ∧ u.walker.map = s.walker.map ∧ u.walker.len = s.walker.len ∧
      u.resp = { memory := s.resp.memory } ∧
      u.svc.events.pendingCount = 0 ∧ u.svc.events.alert = s.svc.events.alert ∧ u.svc.events.causeNode = true ∧
      u.svc.events.causePowerOn = s.svc.events.causePowerOn ∧ u.svc.events.causeRing = s.svc.events.causeRing ∧
      u.svc.trace.state = .idle ∧ u.pending = s.pending

/-- CLEAR_EVENTS empties the pending set, is answered OK and leaves the alert map and the reset causes as they stand; a raise taken
first is removed, a raise of an enabled class taken after it makes its class pending with a count of 1 (R162). -/
def Obligations.ClearEventsEmptiesThePendingSet : Prop :=
  ∀ (t : Nat) (r : ReqArea) (s : State), WellFormed (.clearEvents t r) = true → s.takesNew r →
    let events := { s.svc.events with pending := Vector.replicate 16 none }
    let u := { s.answered t r .ok [] with svc := { s.svc with events := events } }
    exec (.clearEvents t r) s = .next u ∧
    (∀ i : Fin 16, u.svc.events.pending[i] = none) ∧ u.svc.events.pendingCount = 0 ∧ u.svc.events.highest = 0 ∧
    u.svc.events.alert = s.svc.events.alert ∧ u.svc.events.causePowerOn = s.svc.events.causePowerOn ∧
    u.svc.events.causeRing = s.svc.events.causeRing ∧ u.svc.events.causeNode = s.svc.events.causeNode ∧
    (∀ (k : EventClass) (d : Detail), s.svc.flawAt { mem := .alert, index := k.number, word := 0 } = none →
      s.svc.events.alert[k.place].enable = true →
      (∃ v, exec (.clearEvents t r) (s.raise k d) = .next v ∧ v.svc.events = events) ∧
      (∃ v, exec (.clearEvents t r) s = .next v ∧
        (v.raise k d).svc.events.pending = events.pending.set k.place (some { detail := d, count := 1 })))

/-- STAGE_RESET (R85, R86), no protected word being bad: in OFF and FAULTED it is OK, a reset waits to be sent and the link settles; in
the other states it is DENIED; an index above 7 is a BAD_REQUEST. -/
def Obligations.StageResetIsTakenAtRest : Prop :=
  ∀ (t : Nat) (r : ReqArea) (s : State) (c : Chan), WellFormed (.stageReset t r) = true → s.takesNew r → s.quiet →
    (r.index.toNat = c.val → (s.status c).state = .off ∨ (s.status c).state = .faulted →
      exec (.stageReset t r) s = .next ((s.answered t r .ok []).onLink c fun l =>
        { l with resetWaiting := true, settling := .awaiting })) ∧
    (r.index.toNat = c.val → (s.status c).state ≠ .off → (s.status c).state ≠ .faulted →
      exec (.stageReset t r) s = .next (s.answered t r .denied [])) ∧
    (7 < r.index.toNat → exec (.stageReset t r) s = .next (s.answered t r .badRequest []))

/-! ## Channel requests (1.2 to 1.6) -/

/-- An ARM in OFF whose five preconditions hold enters CALIBRATING with the effective settings fixed (R4, R9, R10, R82, R84); else the
channel stays OFF and CONFIG_REJECT names the first reason that fails (R9). That the events of the cycle in progress that fall later,
before the boundary of the cycle length in use, are generated at once is the model's reading, log 36; that a job still in service then
is marked, so as to leave the new angle history alone, is log 35. An uncorrectable setup word refuses no ARM, is captured and stays bad for
the first job to find (R165, R171): that the ARM then goes on is DEDUCED, log 44, with a free value for a word 0 to 3, log 48. -/
def Obligations.ArmEntersCalibratingOrIsRefused : Prop :=
  (∀ (t : Nat) (r : ReqArea) (s : State) (c : Chan), WellFormed (.arm t r) = true → s.takesNew r → s.quiet →
     r.index.toNat = c.val → (s.status c).state = .off →
     let x := (s.rcd c).setup
     let p := s.tb.cycleLen / x.periods
     s.tb.state = .locked → (s.link c).present = true → (s.link c).settling = .none → 2000 ≤ p → p ≤ 20000 →
     (x.role = .none ∨ (s.partner c).isSome = true) →
     ∃ u, exec (.arm t r) s = .next u ∧
       u.status c = { s.status c with state := .calibrating, latch := .arm } ∧
       (u.rcd c).setup = { x with offset := min x.offset (p - 1) } ∧ (u.rcd c).tuning = (s.rcd c).tuning ∧
       u.hid c = { s.hid c with
         sumA := 0, sumB := 0, sumC := 0, calSamples := 0, calPeriods := 0, effP := p
         effN := x.periods, effOffset := min x.offset (p - 1), effWindow := x.window
         effDeadline := min (max (if x.deadline = 0 then p / 2 else x.deadline) (x.window + 150)) (p - 100)
         thetaPrev := 0, omega := 0, histPeriod := -1, firstJob := true, periodCount := 0
         events := (u.hid c).events } ∧
       (u.hid c).events = (List.range x.periods).filterMap (fun j =>
         let at_ := s.tb.lastBoundary + min x.offset (p - 1) + j * p
         if max s.now t < at_ ∧ at_ < s.tb.lastBoundary + s.tb.lenInUse then
           some { j := j, time := at_, boundary := s.tb.lastBoundary } else none) ∧
       u.link c = { s.link c with report := none, waiver := true } ∧
       (∀ d : Chan, d ≠ c → u.chan d = s.chan d ∧ u.link d = s.link d) ∧
       u = { s.answered t r .ok [1] with
         channels := u.channels, links := u.links
         cu := { s.cu with service := s.cu.service.map fun v => if v.job.chan = c then { v with rearmed := true } else v } }) ∧
  (∀ (t : Nat) (r : ReqArea) (s : State) (c : Chan), WellFormed (.arm t r) = true → s.takesNew r → s.quiet →
     r.index.toNat = c.val → (s.status c).state = .off →
     let x := (s.rcd c).setup
     let p := s.tb.cycleLen / x.periods
     let refused (n : Nat) : Prop := exec (.arm t r) s = .next { (s.answered t r .ok [0]).latched c .arm with
       svc := s.svc.entered .configReject (detail c.val n) }
     let test1 := s.tb.state = .locked
     let test2 := (s.link c).present = true
     let test3 := (s.link c).settling = .none
     let test4 := 2000 ≤ p ∧ p ≤ 20000
     let test5 := x.role = .none ∨ (s.partner c).isSome = true
     (¬ test1 → refused 1) ∧ (test1 → ¬ test2 → refused 2) ∧ (test1 → test2 → ¬ test3 → refused 3) ∧
       (test1 → test2 → test3 → ¬ test4 → refused 4) ∧ (test1 → test2 → test3 → test4 → ¬ test5 → refused 5)) ∧
  (∀ (t : Nat) (r : ReqArea) (s : State) (c : Chan) (w : Fin 6), WellFormed (.arm t r) = true → s.takesNew r →
     s.svc.integ.flaws = [((chanLoc c w.val).key, .double)] → s.svc.integ.kind = none → r.index.toNat = c.val →
     (s.status c).state = .off →
     let x := (s.rcd c).setup
     let p := s.tb.cycleLen / x.periods
     s.tb.state = .locked → (s.link c).present = true → (s.link c).settling = .none → (w.val = 0 ∨ 2000 ≤ p ∧ p ≤ 20000) →
     (w.val = 4 ∨ w.val = 5 ∨ x.role = .none ∨ (s.partner c).isSome = true) →
     ∃ u, exec (.arm t r) s = .next u ∧
       u.status c = { s.status c with state := .calibrating, latch := .arm } ∧
       u.svc.integ.flaws = s.svc.integ.flaws ∧ u.svc.integ.uncCapture = some (chanLoc c w.val) ∧
       min (s.svc.integ.uncorrectable + 1) 65535 ≤ u.svc.integ.uncorrectable ∧
       u.lostArms = (if w.val < 4 then s.lostArms + 1 else s.lostArms) ∧
       (w.val ≠ 0 → (u.hid c).effN = x.periods ∧ (u.hid c).effP = p) ∧
       (w.val ≠ 0 → w.val ≠ 1 → (u.hid c).effOffset = min x.offset (p - 1)) ∧
       (w.val ≠ 2 → (u.hid c).effWindow = x.window) ∧
       ((u.rcd c).setup = x ∨ w.val ≠ 0 ∧ w.val ≠ 1 ∧ (u.rcd c).setup = { x with offset := p - 1 }) ∧
       (u.rcd c).tuning = (s.rcd c).tuning ∧
       (∀ d : Chan, d ≠ c → u.chan d = s.chan d ∧ u.link d = s.link d))

/-- A RUN edge in READY (R13, R14): RUNNING with the loop state at 0 if the latest valid report shows enough voltage and a follower's
leader is RUNNING, else READY with CONFIG_REJECT and the reason. That the id_fw kept for the d ramp of a stop is 0 from then on is
DEDUCED, log 13. -/
def Obligations.RunEntersRunning : Prop :=
  ∀ (t : Nat) (r : ReqArea) (s : State) (c : Chan), WellFormed (.run t r) = true → s.takesNew r → s.quiet →
    r.index.toNat = c.val → (s.status c).state = .ready → (s.status c).latch ≠ .run →
    let refused (n : Nat) : Prop := exec (.run t r) s = .next { (s.answered t r .ok [2]).latched c .run with
      svc := s.svc.entered .configReject (detail c.val n) }
    let volts : Prop := ∃ rep, (s.link c).report = some rep ∧ (s.rcd c).tuning.uMin ≤ rep.u.toNat
    let leads : Prop := (s.rcd c).setup.role = .follower → ∀ q, s.partner c = some q → (s.status q).state = .running
    (volts → leads → exec (.run t r) s = .next ((s.answered t r .ok [3]).onChan c fun k => { k with
      record := { k.record with status := { k.record.status with
        state := .running, latch := .run, accD := 0, accQ := 0, idFw := 0, missRun := 0, degradedRun := 0, angleRun := 0
        fb := { k.record.status.fb with idRef := 0, iqRef := 0 } } }
      hid := { k.hid with rampQ := 0, rampD := 0, rampsSet := false, stopKind := .none, usedIdFw := 0 } })) ∧
    (¬ volts → refused 6) ∧ (volts → ¬ leads → refused 7)

/-- A HALT of a RUNNING channel enters a halt stop, and the RUNNING follower of a leader follows (R15). -/
def Obligations.HaltStopsTheChannel : Prop :=
  ∀ (t : Nat) (r : ReqArea) (s : State) (c : Chan), WellFormed (.halt t r) = true → s.takesNew r → s.quiet →
    r.index.toNat = c.val → (s.status c).state = .running → ∃ u, exec (.halt t r) s = .next u ∧
      let stopped (k : Channel) (latch : RequestCode) : Channel := { k with
        record := { k.record with status := { k.record.status with state := .stopping, fault := .none, latch := latch } }
        hid := { k.hid with stopKind := .halt, stopPeriods := 0, rampQ := 0, rampD := 0, rampsSet := false } }
      u.chan c = stopped (s.chan c) .halt ∧
      (∀ d : Chan, d ≠ c → u.chan d =
        if s.partner c = some d ∧ (s.rcd c).setup.role = .leader ∧ (s.status d).state = .running then
          stopped (s.chan d) (s.status d).latch else s.chan d) ∧
      u = { s.answered t r .ok [4] with channels := u.channels }

/-- An OFF in CALIBRATING, READY, RUNNING or STOPPING enters OFF at once (R5, R6, R16, R70, R75): loop state, ramps, window and queued
job are gone, the gates are closed at once, and the RUNNING follower of a RUNNING leader halts (R15). -/
def Obligations.OffReachesOff : Prop :=
  ∀ (t : Nat) (r : ReqArea) (s : State) (c : Chan), WellFormed (.off t r) = true → s.takesNew r → s.quiet →
    r.index.toNat = c.val → (s.status c).state ≠ .off → (s.status c).state ≠ .faulted →
    ∃ u, exec (.off t r) s = .next u ∧
      u.status c = { s.status c with state := .off, fault := .none, latch := .off, accD := 0, accQ := 0, idFw := 0 } ∧
      (u.rcd c).setup = (s.rcd c).setup ∧ (u.rcd c).tuning = (s.rcd c).tuning ∧
      u.hid c = { s.hid c with
        rampQ := 0, rampD := 0, rampsSet := false, stopKind := .none
        sumA := 0, sumB := 0, sumC := 0, calSamples := 0, calPeriods := 0, events := [] } ∧
      (u.link c).window = none ∧
      ((s.status c).state ≠ .running → (s.status c).state ≠ .stopping → u.link c = { s.link c with window := none }) ∧
      ((s.status c).state = .running ∨ (s.status c).state = .stopping →
        ((s.link c).sending = none → ∃ q, (u.link c).sending = some q ∧ q.gates = false ∧ q.cmp = (s.link c).cmp) ∧
        ((s.link c).sending.isSome = true → (u.link c).waiting = some .gateOff)) ∧
      u.cu.queue = s.cu.queue.filter (fun j => decide (j.chan ≠ c)) ∧
      u.cu.service = s.cu.service.map (fun v =>
        if v.job.chan = c ∧ (v.state0 = .running ∨ v.state0 = .stopping ∨ v.state0 = .calibrating) then
          { v with left := true } else v) ∧
      (∀ d : Chan, d ≠ c → u.link d = s.link d ∧
        (¬ (s.partner c = some d ∧ (s.rcd c).setup.role = .leader ∧ (s.status c).state = .running ∧
            (s.status d).state = .running) → u.chan d = s.chan d) ∧
        (s.partner c = some d → (s.rcd c).setup.role = .leader → (s.status c).state = .running →
          (s.status d).state = .running →
          u.status d = { s.status d with state := .stopping, fault := .none } ∧ (u.hid d).stopKind = .halt)) ∧
      u = { s.answered t r .ok [0] with channels := u.channels, links := u.links, cu := u.cu }

/-- A CLEAR of a FAULTED channel (R17): OFF with the fault code NONE if the latest valid report shows no fault condition, or there is
none; else the channel stays FAULTED and only the latch takes the code. -/
def Obligations.ClearLeavesFaulted : Prop :=
  ∀ (t : Nat) (r : ReqArea) (s : State) (c : Chan), WellFormed (.clear t r) = true → s.takesNew r → s.quiet →
    r.index.toNat = c.val → (s.status c).state = .faulted →
    let y := (s.rcd c).tuning
    let x := s.status c
    let above (raw : BitVec 16) (off : Int) : Prop :=
      (y.trip : Int) < max (-32767) (min 32767 (raw.toInt - off)) ∨ max (-32767) (min 32767 (raw.toInt - off)) < -(y.trip : Int)
    let shown : Prop := ∃ rep, (s.link c).report = some rep ∧
      (rep.desat = true ∨ above rep.ia x.offA ∨ above rep.ib x.offB ∨ above rep.ic x.offC ∨
        rep.u.toNat < y.uMin ∨ y.uMax < rep.u.toNat ∨ (y.tempLimit : Int) < rep.temp.toInt)
    (shown → exec (.clear t r) s = .next ((s.answered t r .ok [5]).latched c .clear)) ∧
    (¬ shown → ∃ u, exec (.clear t r) s = .next u ∧
      u.status c = { x with state := .off, fault := .none, latch := .clear, accD := 0, accQ := 0, idFw := 0 } ∧
      (u.rcd c).setup = (s.rcd c).setup ∧ (u.rcd c).tuning = y ∧
      (u.hid c).stopKind = .none ∧ (u.hid c).events = [] ∧
      u.link c = { s.link c with window := none } ∧
      (∀ d : Chan, d ≠ c → u.chan d = s.chan d ∧ u.link d = s.link d) ∧
      u.cu.queue = s.cu.queue.filter (fun j => decide (j.chan ≠ c)) ∧
      u.cu.service = s.cu.service.map (fun v =>
        if v.job.chan = c ∧ (v.state0 = .running ∨ v.state0 = .stopping ∨ v.state0 = .calibrating) then
          { v with left := true } else v) ∧
      u = { s.answered t r .ok [0] with channels := u.channels, links := u.links, cu := u.cu })

/-- A code with no entry for the channel's state only reaches the latch (R7): NONE and the codes 6 to 15 everywhere, ARM outside OFF,
RUN outside READY or without an edge, HALT outside RUNNING, OFF in OFF and FAULTED, CLEAR outside FAULTED. -/
def Obligations.CodeWithoutEntryOnlyLatches : Prop :=
  ∀ (t : Nat) (r : ReqArea) (s : State) (c : Chan), s.takesNew r → s.quiet → r.index.toNat = c.val →
    let st := (s.status c).state
    let shows (i : Instr) (code : RequestCode) : Prop :=
      exec i s = .next ((s.answered t r .ok [BitVec.ofNat 32 st.code]).latched c code)
    (WellFormed (.noneRequest t r) = true → shows (.noneRequest t r) .none) ∧
    (WellFormed (.arm t r) = true → st ≠ .off → shows (.arm t r) .arm) ∧
    (WellFormed (.run t r) = true → st ≠ .ready ∨ (s.status c).latch = .run → shows (.run t r) .run) ∧
    (WellFormed (.halt t r) = true → st ≠ .running → shows (.halt t r) .halt) ∧
    (WellFormed (.off t r) = true → st = .off ∨ st = .faulted → shows (.off t r) .off) ∧
    (WellFormed (.clear t r) = true → st ≠ .faulted → shows (.clear t r) .clear)

/-! ## Writes of the exchange (8.2) -/

/-- Writes of the NODE and SHARE tables (R96, R116): the writable words take their values, clamped, and are read back; a write that
names another word is DENIED whole. -/
def Obligations.NodeAndShareWritesStore : Prop :=
  ∀ (t : Nat) (r : ReqArea) (s : State), s.takesNew r → r.index = 0 →
    (WellFormed (.nodeWrite t r) = true →
      let topology := newValue r 1 s.ring.topology fun d => if d = 1 then .through else if d = 2 then .loop else .auto
      let part := newValue r 2 s.ring.participation fun d => if d = 0 then .active else .passive
      ((∀ w, names r w → w = 1 ∨ w = 2) → exec (.nodeWrite t r) s = .next
        { s.answered t r .ok (readBack r fun w => BitVec.ofNat 32 (if w = 1 then topology.code else part.code)) with
          ring := { (s.arrive t).ring with topology := topology, participation := part } }) ∧
      (r.word.toNat + r.count.toNat ≤ 9 → (∃ w, names r w ∧ w ≠ 1 ∧ w ≠ 2) →
        exec (.nodeWrite t r) s = .next (s.answered t r .denied []))) ∧
    (WellFormed (.shareWrite t r) = true →
      let enable := newValue r 0 s.share.enable fun d => decide (d ≠ 0)
      let supply := newValue r 1 s.share.supply fun d => min d.toNat 1048575
      let credit := newValue r 2 s.share.credit fun d => decide (d ≠ 0)
      ((∀ w, names r w → w ≤ 2) → exec (.shareWrite t r) s = .next
        { s.answered t r .ok (readBack r fun w => BitVec.ofNat 32
            (if w = 0 then enable.toNat else if w = 1 then supply else credit.toNat)) with
          share := { s.share with enable := enable, supply := supply, credit := credit } }) ∧
      (r.word.toNat + r.count.toNat ≤ 11 → (∃ w, names r w ∧ 3 ≤ w) →
        exec (.shareWrite t r) s = .next (s.answered t r .denied [])))

/-- Writes of the TIMEBASE table (R59), no protected word being bad: words 1 to 6 take their values, clamped; the cycle length is
writable with every channel OFF alone; a refused write stores nothing. -/
def Obligations.TimebaseWritesStore : Prop :=
  ∀ (t : Nat) (r : ReqArea) (s : State), WellFormed (.timebaseWrite t r) = true → s.takesNew r → s.quiet → r.index = 0 →
    let len := newValue r 1 s.tb.cycleLen fun d =>
      if d.toNat < 18750 then 12500 else if d.toNat < 37500 then 25000 else if d.toNat < 75000 then 50000 else 100000
    let offset := newValue r 2 (newValue r 1 s.tb.offset fun _ => min s.tb.offset (len - 1)) fun d => min d.toNat (len - 1)
    let delay := newValue r 3 s.tb.ringDelay fun d => min d.toNat 65535
    let slew := newValue r 4 s.tb.slew fun d => min d.toNat 255
    let window := newValue r 5 s.tb.lockWindow fun d => max 1 (min d.toNat 255)
    let limit := newValue r 6 s.tb.holdLimit fun d => min d.toNat 65535
    ((∀ w, names r w → 1 ≤ w ∧ w ≤ 6) → (names r 1 → ∀ c : Chan, (s.status c).state = .off) →
      exec (.timebaseWrite t r) s = .next
        { s.answered t r .ok (readBack r fun w => BitVec.ofNat 32 ([0, len, offset, delay, slew, window, limit].getD w 0)) with
          tb := { s.tb with
            cycleLen := len, offset := offset, ringDelay := delay, slew := slew, lockWindow := window, holdLimit := limit } }) ∧
    (r.word.toNat + r.count.toNat ≤ 13 →
      (∃ w, names r w ∧ ¬ (1 ≤ w ∧ w ≤ 6)) ∨ (names r 1 ∧ ∃ c : Chan, (s.status c).state ≠ .off) →
      exec (.timebaseWrite t r) s = .next (s.answered t r .denied []))

/-- Writes of the slot map and of MAP CONTROL (R126, R127), no protected word being bad: in DISABLED and HALTED an entry is stored by
the rules of R126, its length and limit clamped; in READY and WALKING they are DENIED. The reply of a map write has the
request's count and carries the words written before the other word of the entry (log 16). -/
def Obligations.MapWritesStore : Prop :=
  ∀ (t : Nat) (r : ReqArea) (s : State), s.takesNew r → s.quiet → 0 < r.count.toNat →
    let rests := s.walker.state = .disabled ∨ s.walker.state = .halted
    (∀ i : Fin 128, WellFormed (.mapWrite t r) = true → r.index.toNat = i.val → r.word.toNat + r.count.toNat ≤ 2 →
      (¬ rests → exec (.mapWrite t r) s = .next (s.answered t r .denied [])) ∧
      (rests → ∃ (e : MapEntry) (data : List Word), exec (.mapWrite t r) s = .next
          { s.answered t r .ok data r.count.toNat with walker := { s.walker with map := s.walker.map.set i.val e } } ∧
        (data = if r.word = 0 then [e.word0, e.word1] else [e.word1, e.word0]) ∧
        (let d := written r 0
         let a := field d 31 29
         let item := field d 15 11
         let off := field d 28 19
         let bad := (a = 1 ∧ 4 < item) ∨ (a = 2 ∧ 11 < item) ∨ (a = 3 ∧ 0 < item) ∨ (a = 4 ∧ 1 < item)
         let old := s.walker.map[i]
         (names r 0 →
          e.chan.val = field d 18 16 ∧ e.skip = max 1 (field d 10 4) ∧
          (bad → e.item = 0 ∧ e.action = .endWalk) ∧ (¬ bad → e.item = item) ∧
          (e.action = .take ↔ a = 1 ∧ ¬ bad) ∧ (e.action = .put ↔ a = 2 ∧ ¬ bad) ∧ (e.action = .takeNode ↔ a = 3 ∧ ¬ bad) ∧
          (e.action = .putNode ↔ a = 4 ∧ ¬ bad) ∧ (e.action = .skipUnless ↔ a = 5) ∧
          (off = 1023 ∧ a = 5 → e.offset = 1023) ∧ (¬ (off = 1023 ∧ a = 5) → e.offset = min off 511)) ∧
         (¬ names r 0 → e.action = old.action ∧ e.offset = old.offset ∧ e.chan = old.chan ∧ e.item = old.item ∧
          e.skip = old.skip) ∧
         e.mask = newValue r 1 old.mask (fun x => BitVec.setWidth 16 (x >>> 16)) ∧
         e.value = newValue r 1 old.value (fun x => BitVec.setWidth 16 x)))) ∧
    (WellFormed (.mapControlWrite t r) = true → r.index = 0 → r.word.toNat + r.count.toNat ≤ 5 →
      let len := newValue r 1 s.walker.len fun d => min d.toNat 128
      let limit := newValue r 2 s.walker.limit fun d => max 1 (min d.toNat 128)
      ((∀ w, names r w → w = 1 ∨ w = 2) → rests → exec (.mapControlWrite t r) s = .next
        { s.answered t r .ok (readBack r fun w => BitVec.ofNat 32 (if w = 1 then len else limit)) with
          walker := { s.walker with len := len, limit := limit } }) ∧
      ((∃ w, names r w ∧ w ≠ 1 ∧ w ≠ 2) ∨ ¬ rests →
        exec (.mapControlWrite t r) s = .next (s.answered t r .denied [])))

/-- Writes of the ALERT and INTEGRITY tables (R158, R167), no protected word being bad: the enables and lines of a class, and the
injection settings, take their values; a write that names a read-only word is DENIED whole. Writes of the TRACE table (R172): in IDLE
and DONE the settings take their values, clamped; a write that names word 0, 15 or 16, or any word in another state, is DENIED. That
the trigger level is taken as a 32-bit two's complement number before it is clamped is DEDUCED, log 27. -/
def Obligations.AlertIntegrityAndTraceWritesStore : Prop :=
  (∀ (t : Nat) (r : ReqArea) (s : State), s.takesNew r →
      (∀ i : Fin 16, s.quiet → WellFormed (.alertWrite t r) = true → r.index.toNat = i.val + 1 →
        let old := s.svc.events.alert[i]
        let enable := newValue r 0 old.enable fun d => decide (d ≠ 0)
        let line := newValue r 1 old.line fun d => min d.toNat 7
        ((∀ w, names r w → w ≤ 1) → exec (.alertWrite t r) s = .next
          { s.answered t r .ok (readBack r fun w => BitVec.ofNat 32 (if w = 0 then enable.toNat else line)) with
            svc := { s.svc with events := { s.svc.events with
              alert := s.svc.events.alert.set i.val { enable := enable, line := line } } } }) ∧
        (r.word.toNat + r.count.toNat ≤ 6 → (∃ w, names r w ∧ 2 ≤ w) →
          exec (.alertWrite t r) s = .next (s.answered t r .denied []))) ∧
      (WellFormed (.integrityWrite t r) = true → r.index = 0 →
        let g := s.svc.integ
        let x : Integrity := { g with
          target := newValue r 6 g.target fun d =>
            if d = 0 then .channel else if d = 1 then .map else if d = 2 then .alert else .trace
          kind := newValue r 7 g.kind fun d => if d = 1 then some .single else if d = 2 then some .double else none
          parity := newValue r 8 g.parity fun d => Vector.ofFn fun k : Fin 8 => d.getLsbD k.val }
        ((∀ w, names r w → 6 ≤ w ∧ w ≤ 8) → exec (.integrityWrite t r) s = .next
          { s.answered t r .ok (readBack r fun w => toWord (x.word w)) with svc := { s.svc with integ := x } }) ∧
        (r.word.toNat + r.count.toNat ≤ 9 → (∃ w, names r w ∧ w ≤ 5) →
          exec (.integrityWrite t r) s = .next (s.answered t r .denied [])))) ∧
  (∀ (t : Nat) (r : ReqArea) (s : State), WellFormed (.traceWrite t r) = true → s.takesNew r → r.index = 0 →
      let x := s.svc.trace
      let rests := x.state = .idle ∨ x.state = .done
      let pre := newValue r 10 x.pre fun d => min d.toNat 1023
      let y : Trace := { x with
        laneChan := Vector.ofFn fun k : Fin 4 => newValue r (k.val + 1) x.laneChan[k] fun d => Fin.ofNat 8 (min d.toNat 7)
        laneQty := Vector.ofFn fun k : Fin 4 =>
          newValue r (k.val + 5) x.laneQty[k] fun d => if 15 < d.toNat then 0 else Fin.ofNat 16 d.toNat
        refChan := newValue r 9 x.refChan fun d => Fin.ofNat 8 (min d.toNat 7)
        pre := pre
        post := newValue r 11 (newValue r 10 x.post fun _ => min x.post (1024 - pre)) fun d => max 1 (min d.toNat (1024 - pre))
        source := newValue r 12 x.source fun d =>
          if d = 1 then .event else if d = 2 then .rising else if d = 3 then .falling else .command
        trigClass := newValue r 13 x.trigClass fun d => max 1 (min d.toNat 16)
        level := newValue r 14 x.level fun d => max (-32768) (min 65535 d.toInt) }
      ((∀ w, names r w → 1 ≤ w ∧ w ≤ 14) → rests → exec (.traceWrite t r) s = .next
        { s.answered t r .ok (readBack r fun w => toWord (y.word w)) with svc := { s.svc with trace := y } }) ∧
      (r.word.toNat + r.count.toNat ≤ 17 → 0 < r.count.toNat → (∃ w, names r w ∧ ¬ (1 ≤ w ∧ w ≤ 14)) ∨ ¬ rests →
        exec (.traceWrite t r) s = .next (s.answered t r .denied [])))

/-- Writes of the channel record (R1, R2, R49), no protected word being bad: every setup and tuning word takes its value, clamped with
the earlier words of the same write stored. A setup word outside OFF or a status word makes the write DENIED whole. While a job of
the channel is in service the write is held behind those held already, and clamped as it will stand after them. That the share and the
lowest id_fw are taken as 32-bit two's complement numbers before they are clamped is DEDUCED, log 27. -/
def Obligations.ChannelWritesStore : Prop :=
  ∀ (t : Nat) (r : ReqArea) (s : State) (c : Chan), WellFormed (.channelWrite t r) = true → s.takesNew r → s.quiet →
    r.index.toNat = c.val → r.word.toNat + r.count.toNat ≤ 68 → 0 < r.count.toNat →
    let base := (s.chan c).held.foldl (fun k ps => k.putAll ps) (s.rcd c)
    let x := base.setup
    let y := base.tuning
    let fit (w lo hi old : Nat) : Nat := newValue r w old fun d => max lo (min d.toNat hi)
    let periods := newValue r 0 x.periods fun d => if d.toNat < 2 then 1 else if d.toNat < 4 then 2 else
      if d.toNat < 8 then 4 else if d.toNat < 16 then 8 else 16
    let p := s.tb.cycleLen / periods
    let window := fit 2 100 3100 x.window
    let setup : Setup := {
      periods := periods
      offset := newValue r 1 x.offset fun d => min d.toNat (p - 1)
      window := window
      deadline := newValue r 3 x.deadline fun d => if d = 0 then 0 else if p - 100 < window + 150 then p - 100 else
        max (window + 150) (min d.toNat (p - 100))
      role := newValue r 4 x.role fun d => if d = 1 then .leader else if d = 2 then .follower else .none
      partner := newValue r 5 x.partner fun d => Fin.ofNat 8 (min d.toNat 7)
      share := newValue r 6 x.share fun d => max (-32767) (min 32767 d.toInt)
      fwOn := newValue r 7 x.fwOn fun d => decide (d ≠ 0)
      offsetLimit := fit 8 0 4095 x.offsetLimit
      weight := fit 9 0 65535 x.weight }
    let idFwMin := newValue r 18 y.idFwMin fun d => max (-32767) (min 0 d.toInt)
    let iqLim := fit 19 0 32767 y.iqLim
    let tuning : Tuning := {
      kpD := fit 10 0 65535 y.kpD
      kiD := fit 11 0 65535 y.kiD
      kpQ := fit 12 0 65535 y.kpQ
      kiQ := fit 13 0 65535 y.kiQ
      modLimit := fit 14 0 32767 y.modLimit
      advance := fit 15 0 511 y.advance
      fwThreshold := fit 16 0 32767 y.fwThreshold
      fwStep := fit 17 0 1023 y.fwStep
      idFwMin := idFwMin
      iqLim := iqLim
      idLim := fit 20 0 32767 y.idLim
      imax := fit 21 0 32767 y.imax
      iqFloor := newValue r 22 (newValue r 19 y.iqFloor fun _ => min y.iqFloor iqLim) fun d => min d.toNat iqLim
      trip := fit 23 0 32767 y.trip
      uMin := fit 24 0 32767 y.uMin
      uMax := fit 25 0 32767 y.uMax
      tempLimit := fit 26 0 400 y.tempLimit
      rampRate := fit 27 1 32767 y.rampRate
      stopLimit := fit 28 1 65535 y.stopLimit
      zeroThreshold := fit 29 0 32767 y.zeroThreshold
      missLimit := fit 30 0 15 y.missLimit
      degradedLimit := fit 31 0 15 y.degradedLimit
      angleGrace := fit 32 0 15 y.angleGrace
      cmin := fit 33 0 500 y.cmin
      rank := fit 34 0 3 y.rank }
    let after : Record := { setup := setup, tuning := tuning, status := s.status c }
    let denied := (∃ w, names r w ∧ 35 ≤ w) ∨ (s.status c).state ≠ .off ∧ ∃ w, names r w ∧ w < 10
    let answer := s.answered t r .ok (readBack r fun w => toWord (after.word w))
    let idle := ∀ v, s.cu.service = some v → v.job.chan ≠ c
    (denied → exec (.channelWrite t r) s = .next (s.answered t r .denied [])) ∧
    (¬ denied → idle → (s.chan c).held = [] → exec (.channelWrite t r) s = .next (answer.onChan c fun k => { k with
      record := { after with status := { after.status with
        idFw := newValue r 18 (s.status c).idFw fun _ => max (s.status c).idFw idFwMin } } })) ∧
    (¬ denied → ¬ idle → ∃ ps : List (Nat × Int), base.putAll ps = after ∧
      exec (.channelWrite t r) s = .next (answer.onChan c fun k => { k with held := k.held ++ [ps] }))

/-- An access of a stage register (R89, R150): with the link PRESENT the link takes the pass-through and the reply is PENDING, the
responder waiting; with it ABSENT the reply is STAGE_ABSENT (R89); a count above 1 or an index above 7 is a BAD_REQUEST. That a READ carries data
word 0 in its data field too is the model's choice, log 45; that PENDING and STAGE_ABSENT have a count of 0 is DEDUCED, log 51. A count of 0
is OK and does nothing. -/
def Obligations.StageAccessIsPassedThrough : Prop :=
  ∀ (t : Nat) (r : ReqArea) (s : State) (i : Instr), s.takesNew r → WellFormed i = true →
    (i = .stageRead t r ∨ i = .stageWrite t r) →
    (∀ c : Chan, r.index.toNat = c.val → r.count = 1 →
      ((s.link c).present = true →
        let x := s.answered t r .pending []
        exec i s = .next ({ x with resp := { x.resp with state := .waiting, flight := some r } }.onLink c fun l =>
          { l with pass := some {
            req := { reg := r.word, write := decide (r.kind.toNat = 1), data := BitVec.setWidth 16 r.data[0] }
            started := false, timeout := max s.now t + 200000 } })) ∧
      ((s.link c).present = false → exec i s = .next (s.answered t r .stageAbsent []))) ∧
    (r.index.toNat ≤ 7 → r.count = 0 → exec i s = .next (s.answered t r .ok [])) ∧
    (7 < r.index.toNat ∨ 1 < r.count.toNat → exec i s = .next (s.answered t r .badRequest []))

/-- A WRITE to a table with no writable word (R146, R148): the words of COUNTERS are read-only, so it is DENIED; an undefined table or
an index out of range is a BAD_REQUEST; a count of 0 writes nothing and is OK. A WRITE of any other table is that table's own
write. -/
def Obligations.WriteIsItsTablesWrite : Prop :=
  ∀ (t : Nat) (r : ReqArea) (s : State), s.takesNew r → r.kind.toNat = 1 →
    (r.table.toNat = 9 → r.index.toNat ≤ 8 → r.count = 0 → exec (.write t r) s = .next (s.answered t r .ok [])) ∧
    (r.table.toNat = 9 → r.index.toNat ≤ 8 → 0 < r.count.toNat →
      r.word.toNat + r.count.toNat ≤ (if r.index.toNat = 8 then 24 else 14) →
      exec (.write t r) s = .next (s.answered t r .denied [])) ∧
    (r.table.toNat = 9 ∧ 8 < r.index.toNat ∨ 10 < r.table.toNat → exec (.write t r) s = .next (s.answered t r .badRequest [])) ∧
    (r.table.toNat = 0 → exec (.write t r) s = exec (.nodeWrite t r) s) ∧
    (r.table.toNat = 1 → exec (.write t r) s = exec (.channelWrite t r) s) ∧
    (r.table.toNat = 2 → exec (.write t r) s = exec (.mapWrite t r) s) ∧
    (r.table.toNat = 3 → exec (.write t r) s = exec (.mapControlWrite t r) s) ∧
    (r.table.toNat = 4 → exec (.write t r) s = exec (.alertWrite t r) s) ∧
    (r.table.toNat = 5 → exec (.write t r) s = exec (.shareWrite t r) s) ∧
    (r.table.toNat = 6 → exec (.write t r) s = exec (.timebaseWrite t r) s) ∧
    (r.table.toNat = 7 → exec (.write t r) s = exec (.integrityWrite t r) s) ∧
    (r.table.toNat = 8 → exec (.write t r) s = exec (.traceWrite t r) s) ∧
    (r.table.toNat = 10 → exec (.write t r) s = exec (.stageWrite t r) s)

/-! ## Reads, vectors and fetches (8.2, 8.4 to 8.6, 9.4, 9.5, 11.4) -/

/-- A READ of good words returns them as they stand, in increasing order (R147), with the layouts of 1.1, 3.1, 5.1, 6.3, 7.1, 7.2, 9.3,
10.2, 11.1 and 8.7; the words are those of the state in which this request itself is counted, log 41. The status words are built from
their fields (7.8, 8.7); that bit 3 of STAGE STATUS covers a pass-through that still waits is DEDUCED, log 30. The words of a map entry
show its fields where they are in range, as every step keeps them. A READ of one uncorrectable word of a channel record is INTEGRITY, and
the reading is captured (R165), the enable of INTEGRITY_FATAL being a good word. -/
def Obligations.ReadReturnsTheWords : Prop :=
  (∀ (t : Nat) (r : ReqArea) (s : State), WellFormed (.read t r) = true → s.takesNew r → 0 < r.count.toNat →
    tableIndexOk r.table.toNat r.index.toNat = true →
    r.word.toNat + r.count.toNat ≤ tableWords r.table.toNat r.index.toNat →
    (s.quiet → exec (.read t r) s = .next (s.answered t r .ok (readBack r fun w =>
      (s.answered t r .ok []).tableWord r.table.toNat r.index.toNat w))) ∧
    (∀ (c : Chan) (w : Nat), r.table.toNat = 1 → r.index.toNat = c.val → r.word.toNat = w → r.count = 1 →
      s.svc.flawAt { mem := .channel, index := c.val, word := w } = some .double →
      s.svc.flawAt { mem := .alert, index := 1, word := 0 } = none →
      ∃ u, exec (.read t r) s = .next u ∧ u.resp.formed = some (s.replyWith r .integrity []) ∧
        u.svc.integ.uncCapture = some { mem := .channel, index := c.val, word := w } ∧ u.channels = s.channels)) ∧
  (∀ (s : State) (c : Chan),
    let words (table index n : Nat) : List Word := (List.range n).map fun w => s.tableWord table index w
    let lay (l : List Int) : List Word := l.map fun x => BitVec.ofInt 32 x
    let x := (s.rcd c).setup
    let y := (s.rcd c).tuning
    let z := s.status c
    let g := s.svc.integ
    let tr := s.svc.trace
    let k := (s.chan c).counts
    let l := (s.link c).counts
    let n := s.ring.counts
    let m := s.walker.counts
    let p := s.resp.counts
    words 0 0 9 = lay [s.ring.address.toNat, s.ring.topology.code, s.ring.participation.code, 0x4B38, 1, 0x2E61,
      s.ring.portU.state.code, s.ring.portD.state.code, s.ring.pathNow.code] ∧
    words 1 c.val 68 = lay [x.periods, x.offset, x.window, x.deadline, x.role.code, x.partner.val, x.share, x.fwOn.toNat,
      x.offsetLimit, x.weight] ++ lay [y.kpD, y.kiD, y.kpQ, y.kiQ, y.modLimit, y.advance, y.fwThreshold, y.fwStep, y.idFwMin, y.iqLim,
      y.idLim, y.imax, y.iqFloor, y.trip, y.uMin, y.uMax, y.tempLimit, y.rampRate, y.stopLimit, y.zeroThreshold, y.missLimit,
      y.degradedLimit, y.angleGrace, y.cmin, y.rank] ++ lay [z.state.code, z.fault.code, z.latch.code, z.offA, z.offB, z.offC,
      z.iqPrev, z.iqCur, z.idPrev, z.idCur, z.vdFf, z.vqFf, z.accD, z.accQ, z.idFw, z.grant, z.missRun, z.degradedRun,
      z.angleRun] ++ lay [z.fb.id, z.fb.iq, z.fb.idRef, z.fb.iqRef, z.fb.vd, z.fb.vq, z.fb.u, z.fb.theta, z.fb.omega, z.fb.p,
      z.fb.cmp.a, z.fb.cmp.b, z.fb.cmp.c, z.fb.flags.code] ∧
    words 3 0 5 = lay [s.walker.state.code, s.walker.len, s.walker.limit, s.walker.lastEnd.code, s.walker.lastCount] ∧
    words 5 0 11 = lay [s.share.enable.toNat, s.share.supply, s.share.credit.toNat, s.share.restricted.toNat,
      s.share.remaining, s.share.regen, s.share.cutRank, s.share.demands[0], s.share.demands[1], s.share.demands[2],
      s.share.demands[3]] ∧
    words 6 0 13 = lay [s.tb.state.code, s.tb.cycleLen, s.tb.offset, s.tb.ringDelay, s.tb.slew, s.tb.lockWindow,
      s.tb.holdLimit, s.tb.syncFault.toNat, s.tb.lastError, s.tb.inRun, s.tb.outRun, s.tb.missRun, s.tb.holdCount] ∧
    words 7 0 8 = lay [g.corrected, g.uncorrectable, captureMemory g.corrCapture, captureLoc g.corrCapture,
      captureMemory g.uncCapture, captureLoc g.uncCapture, g.target.code, injectionCode g.kind] ∧
    (let v := s.tableWord 7 0 8
     (∀ k : Chan, v.getLsbD k.val = g.parity[k]) ∧ field v 31 8 = 0) ∧
    (MapControlInRange s → ∀ i : Fin 128,
      let e := s.walker.map[i]
      let v := s.tableWord 2 i.val 0
      field v 31 29 = e.action.code ∧ field v 28 19 = e.offset ∧ field v 18 16 = e.chan.val ∧ field v 15 11 = e.item ∧
        field v 10 4 = e.skip ∧ field v 3 0 = 0 ∧
        field (s.tableWord 2 i.val 1) 31 16 = e.mask.toNat ∧ field (s.tableWord 2 i.val 1) 15 0 = e.value.toNat) ∧
    (∀ i : Fin 16,
      let a := s.svc.events.alert[i]
      words 4 (i.val + 1) 6 = lay [a.enable.toNat, a.line] ++ (match s.svc.events.pending[i] with
        | none => [0, 0, 0, 0]
        | some p => [1, BitVec.ofNat 32 p.count, p.detail.w0, p.detail.w1])) ∧
    words 8 0 17 = lay [tr.state.code, tr.laneChan[0].val, tr.laneChan[1].val, tr.laneChan[2].val, tr.laneChan[3].val,
      tr.laneQty[0].val, tr.laneQty[1].val, tr.laneQty[2].val, tr.laneQty[3].val, tr.refChan.val, tr.pre, tr.post,
      tr.source.code, tr.trigClass, tr.level, tr.entries.length, tr.trigSample] ∧
    words 9 c.val 14 = lay [k.completed, k.abandoned, k.overrun, l.damaged, l.parity, l.missWindow, l.missParity, l.missEcho,
      l.late, l.stray, l.timeouts, l.sent, k.setpoints, stageStatusWord (s.link c)] ∧
    words 9 8 24 = lay [s.tb.marksTaken, s.tb.marksMissed, s.share.budgets, s.share.restrictedBudgets, n.frames, n.headerFail,
      n.checkFail, n.undefKinds, n.lost, n.discards, n.symErrU, n.symErrD, m.begun, m.late, m.short, m.limited, m.commits,
      m.discards, m.halts, p.taken, p.busy, p.repeats, p.deferred, p.dropped] ∧
    (let v := stateWord z
     field v 3 0 = z.state.code ∧ field v 7 4 = z.fault.code ∧ field v 11 8 = z.latch.code ∧
       field v 16 12 = z.fb.flags.code ∧ field v 31 17 = 0) ∧
    (let v := nodeStatusWord s.tb s.walker.state s.svc.events
     field v 1 0 = s.tb.state.code ∧ field v 2 2 = s.tb.syncFault.toNat ∧ field v 5 4 = s.walker.state.code ∧
       field v 15 8 = s.svc.events.pendingCount ∧ field v 31 16 = s.svc.events.highest) ∧
    (let v := shareStatusWord s.share
     field v 30 0 = min s.share.remaining 1048575 ∧ field v 31 31 = s.share.restricted.toNat) ∧
    (let v : Word := BitVec.ofNat 32 (stageStatusWord (s.link c))
     field v 0 0 = (s.link c).present.toNat ∧ field v 1 1 = (if (s.link c).settling = .none then 0 else 1) ∧
       field v 2 2 = (s.link c).note.toNat ∧ field v 3 3 = (s.link c).pass.isSome.toNat ∧
       field v 15 8 = (s.link c).sentSeq.toNat ∧ field v 31 16 = 0))

/-- Check bits (R165): a single error in a word that a READ names is corrected, the word is good again, counted, captured and raised as
INTEGRITY_CORRECTED, and the reader has its value. A store makes its words good and leaves every other word, and an armed injection that
names the memory falls on the first of them once, the others staying good (R169). That the bad words are a list beside the values is the
model's choice, log 9. -/
def Obligations.ChecksAndStoresMendWords : Prop :=
  (∀ (t : Nat) (r : ReqArea) (s : State) (c : Chan) (w : Nat), WellFormed (.read t r) = true → s.takesNew r →
    r.table.toNat = 1 → r.index.toNat = c.val → r.word.toNat = w → r.count = 1 → w < 68 →
    let l : Loc := { mem := .channel, index := c.val, word := w }
    FlawsCanonical s → s.svc.flawAt l = some .single →
    s.svc.flawAt { mem := .alert, index := 14, word := 0 } = none →
    ∃ u, exec (.read t r) s = .next u ∧
      u.resp.formed = some (s.replyWith r .ok [s.tableWord 1 c.val w]) ∧
      u.svc.flawAt l = none ∧ (∀ m : Loc, m.key ≠ l.key → u.svc.flawAt m = s.svc.flawAt m) ∧
      u.svc.integ.corrected = min (s.svc.integ.corrected + 1) 65535 ∧ u.svc.integ.corrCapture = some l ∧
      u.svc.integ.uncorrectable = s.svc.integ.uncorrectable ∧
      u.svc.events = (s.svc.entered .integrityCorrected (detail 0 (c.val * 65536 + w))).events ∧ u.channels = s.channels) ∧
  (∀ (t : Nat) (r : ReqArea) (s : State) (c : Chan), WellFormed (.noneRequest t r) = true → s.takesNew r →
    r.index.toNat = c.val → s.svc.integ.flaws = [] →
    let l : Loc := { mem := .channel, index := c.val, word := 37 }
    ∃ u, exec (.noneRequest t r) s = .next u ∧ (u.status c).latch = .none ∧
      (∀ k, s.svc.integ.kind = some k → s.svc.integ.target = .channel →
        u.svc.integ = { s.svc.integ with flaws := [(l.key, k)], kind := none } ∧ u.svc.flawAt l = some k) ∧
      (s.svc.integ.kind = none ∨ s.svc.integ.target ≠ .channel → u.svc = s.svc)) ∧
  (∀ (v : Services) (ls : List Loc) (l : Loc), Memory.wf v.integ.flaws = true → v.integ.kind = none → l ∈ ls →
    (v.store ls).flawAt l = none ∧ (v.store ls).integ.kind = none) ∧
  (∀ (v : Services) (l : Loc) (ls : List Loc) (k : Flaw), Memory.wf v.integ.flaws = true → v.integ.kind = some k →
    let u := v.store (l :: ls)
    let hit := l.mem = v.integ.target
    u.flawAt l = (if hit then some k else none) ∧ u.integ.kind = (if hit then none else some k) ∧
      (∀ m ∈ ls, m.key ≠ l.key → u.flawAt m = none) ∧
      (∀ m : Loc, (∀ x ∈ l :: ls, m.key ≠ x.key) → u.flawAt m = v.flawAt m))

/-- VECTOR(EVENT) returns and removes the pending class of the highest priority (R161); with none pending it returns NONE and removes
nothing. -/
def Obligations.EventVectorTakesTheHighestClass : Prop :=
  ∀ (t : Nat) (r : ReqArea) (s : State), WellFormed (.vectorEvent t r) = true → s.takesNew r →
    let e := s.svc.events
    ((∀ i : Fin 16, e.pending[i] = none) → exec (.vectorEvent t r) s = .next (s.answered t r .ok [0, 0, 0, 0, 0])) ∧
    (∀ (i : Fin 16) (p : Pending), e.pending[i] = some p → (∀ k : Fin 16, k < i → e.pending[k] = none) →
      exec (.vectorEvent t r) s = .next
        { s.answered t r .ok
            [BitVec.ofNat 32 (i.val + 1), BitVec.ofNat 32 p.count, p.detail.w0, p.detail.w1,
             BitVec.ofNat 32 (e.pendingCount - 1)] with
          svc := { s.svc with events := { e with pending := e.pending.set i.val none } } })

/-- The reset cause set (R163): what the three kinds of reset add, and VECTOR(RESET), which returns and removes the highest cause
pending with the number left. CLEAR_EVENTS, and a request that is busy, passed over or a repeat, remove nothing. No command but
VECTOR(RESET) removes the cause POWER_ON, and none but it and POWER_ON the other two; that it comes as its own row or in a header, by
HEADER_CHECK, PORT_SYMBOL or END_SYMBOL, is the model's choice, log 3 and log 33. -/
def Obligations.ResetCausesAreReadOnce : Prop :=
  (∀ s : State, ∃ u, exec .powerOn s = .next u ∧ u.svc.events.causePowerOn = true ∧ u.svc.events.causeRing = false ∧
    u.svc.events.causeNode = false) ∧
  (∀ s : State, s.ringReset.svc.events.causeRing = true ∧ s.ringReset.svc.events.causePowerOn = s.svc.events.causePowerOn ∧
    s.ringReset.svc.events.causeNode = s.svc.events.causeNode) ∧
  (∀ s : State, s.nodeReset.svc.events.causeNode = true ∧ s.nodeReset.svc.events.causePowerOn = s.svc.events.causePowerOn ∧
    s.nodeReset.svc.events.causeRing = s.svc.events.causeRing) ∧
  (∀ (t : Nat) (r : ReqArea) (s : State), WellFormed (.vectorReset t r) = true → s.takesNew r →
    let e := s.svc.events
    let took (data : List Word) (x : Events) : Prop :=
      exec (.vectorReset t r) s = .next { s.answered t r .ok data with svc := { s.svc with events := x } }
    (e.causePowerOn = true → took [1, BitVec.ofNat 32 (e.causeRing.toNat + e.causeNode.toNat)] { e with causePowerOn := false }) ∧
    (e.causePowerOn = false → e.causeRing = true → took [2, BitVec.ofNat 32 e.causeNode.toNat] { e with causeRing := false }) ∧
    (e.causePowerOn = false → e.causeRing = false → e.causeNode = true → took [3, 0] { e with causeNode := false }) ∧
    (e.causePowerOn = false → e.causeRing = false → e.causeNode = false → took [0, 0] e)) ∧
  (∀ (t : Nat) (r : ReqArea) (s : State), WellFormed (.clearEvents t r) = true → ∃ u, exec (.clearEvents t r) s = .next u ∧
    u.svc.events.causePowerOn = s.svc.events.causePowerOn ∧ u.svc.events.causeRing = s.svc.events.causeRing ∧
    u.svc.events.causeNode = s.svc.events.causeNode) ∧
  (∀ (t : Nat) (r : ReqArea) (s : State), s.resp.state ≠ .idle ∨ (s.resp.repeated r).isSome = true →
    WellFormed (.vectorReset t r) = true → ∃ u, exec (.vectorReset t r) s = .next u ∧ u.svc = s.svc) ∧
  (∀ (i : Instr) (s u : State), exec i s = .next u → (∀ t r, i ≠ .vectorReset t r) →
    (∀ t h, i = .headerCheck t h → ¬ ((reqOf h).kind.toNat = 3 ∧ (reqOf h).index = 1)) →
    (∀ t p sym, i ≠ .portSymbol t p sym) → (∀ t ws order, i ≠ .endSymbol t ws order) →
    (s.svc.events.causePowerOn = true → u.svc.events.causePowerOn = true) ∧
    (i ≠ .powerOn → (s.svc.events.causeRing = true → u.svc.events.causeRing = true) ∧
      (s.svc.events.causeNode = true → u.svc.events.causeNode = true)))

/-- A FETCH (R177), no protected word being bad: in DONE it returns and removes the two oldest entries, or as many as are held; in any
other state it is DENIED; an index other than 0 is a BAD_REQUEST. -/
def Obligations.FetchReturnsTheOldest : Prop :=
  ∀ (t : Nat) (r : ReqArea) (s : State), WellFormed (.fetch t r) = true → s.takesNew r → s.quiet →
    let tr := s.svc.trace
    let gives (data : List Word) (rest : List TraceEntry) : Prop :=
      exec (.fetch t r) s = .next { s.answered t r .ok data with svc := { s.svc with trace := { tr with entries := rest } } }
    (r.index ≠ 0 → exec (.fetch t r) s = .next (s.answered t r .badRequest [])) ∧
    (r.index = 0 → tr.state ≠ .done → exec (.fetch t r) s = .next (s.answered t r .denied [])) ∧
    (r.index = 0 → tr.state = .done →
      (tr.entries = [] → gives [0] []) ∧
      (∀ e, tr.entries = [e] → gives [BitVec.ofNat 32 65536, e.w0 ||| 1, e.w1, e.w2] []) ∧
      (∀ e f rest, tr.entries = e :: f :: rest →
        gives [BitVec.ofNat 32 (131072 + rest.length), e.w0 ||| 1, e.w1, e.w2, f.w0 ||| 1, f.w1, f.w2] rest))

/-- A capture of the trace recorder (R173 to R176), no protected word being bad: the entry holds the sample number and the four lanes; in
FILLING it joins until the pre-trigger count is held, in ARMED the oldest goes, in POST the post-trigger count ends the recording with
TRACE_DONE. A level trigger is the crossing between two captures (R175), an event trigger a raise of the trigger class (R175). That the
trigger which the PERIOD_LOSS of a blind job raises at its completion is taken before that job's capture, the first of the post-trigger
count then, is the model's choice, log 8; what a queue adds to that completion is the first clause of JobsEndByTheirKind. That the next
place moves on in ARMED with a pre-trigger count of 0 too is DEDUCED, log 31. -/
def Obligations.CapturesFollowTheTrigger : Prop :=
  (∀ s : State, s.quiet →
    let tr := s.svc.trace
    let reads (q : Nat) (c : Chan) : Int :=
      let z := s.status c
      [0, z.fb.id, z.fb.iq, z.fb.idRef, z.fb.iqRef, z.fb.vd, z.fb.vq, z.fb.u, z.fb.theta, z.fb.omega, z.fb.p, z.fb.cmp.a,
        z.fb.cmp.b, z.fb.cmp.c, z.grant, z.idFw].getD q 0
    let lane (i : Fin 4) : BitVec 16 := BitVec.ofInt 16 (reads tr.laneQty[i].val tr.laneChan[i])
    let unsigned := tr.laneQty[0].val ∈ [7, 8, 11, 12, 13, 14]
    let value : Int := if unsigned then (lane 0).toNat else (lane 0).toInt
    let e : TraceEntry := { w0 := BitVec.ofNat 32 (tr.sample * 65536), w1 := lane 0 ++ lane 1, w2 := lane 2 ++ lane 3 }
    let a : Trace := { tr with
      entries := tr.entries ++ [e], next := (tr.next + 1) % 1024, sample := (tr.sample + 1) % 65536, prevLane := some value }
    let crosses : Prop := ∃ p, tr.prevLane = some p ∧
      (tr.source = .rising ∧ p < tr.level ∧ tr.level ≤ value ∨ tr.source = .falling ∧ tr.level ≤ p ∧ value < tr.level)
    let waits := tr.state = .filling ∨ tr.state = .armed
    let u := s.capture
    let triggered := { a with trigSample := tr.sample }
    (waits → crosses → tr.post = 1 → u.svc.trace = { triggered with state := .done, postDone := 1 }) ∧
    (waits → crosses → tr.post ≠ 1 → u.svc.trace = { triggered with state := .post, postDone := 1 } ∧
      u.svc.events = s.svc.events) ∧
    (tr.state = .filling → ¬ crosses →
      u.svc.trace = { a with state := if a.entries.length = tr.pre then .armed else .filling }) ∧
    (tr.state = .armed → ¬ crosses →
      u.svc.trace = { a with entries := if tr.pre < a.entries.length then a.entries.drop 1 else a.entries }) ∧
    (tr.state = .post → tr.postDone + 1 = tr.post → u.svc.trace = { a with state := .done, postDone := tr.post } ∧
      u.svc.events = (s.svc.entered .traceDone (detail a.entries.length tr.sample)).events) ∧
    (tr.state = .post → tr.postDone + 1 ≠ tr.post → u.svc.trace = { a with state := .post, postDone := tr.postDone + 1 } ∧
      u.svc.events = s.svc.events) ∧
    u = { s with svc := u.svc }) ∧
  (∀ (s : State) (k : EventClass) (d : Detail), s.quiet →
    let tr := s.svc.trace
    let hit := (tr.state = .filling ∨ tr.state = .armed) ∧ tr.source = .event ∧ tr.trigClass = k.number
    (s.raise k d).svc.trace = if hit then { tr with state := .post, trigSample := tr.sample, postDone := 0 } else tr) ∧
  (∀ (s : State) (v : Service), s.quiet → s.cu = { queue := [], service := some v } → v.kind = .blind → v.blocked = false →
    v.left = false →
    let c := v.job.chan
    let tr := s.svc.trace
    (s.status c).state = .running → (s.rcd c).tuning.degradedLimit < min ((s.status c).degradedRun + 1) 255 →
    (s.chan c).held = [] → tr.refChan = c → tr.source = .event → tr.trigClass = 2 → tr.state = .filling ∨ tr.state = .armed →
    ∃ u, exec .jobComplete s = .next u ∧ u.svc.trace = { tr with
      state := if tr.post = 1 then .done else .post
      entries := u.svc.trace.entries, prevLane := u.svc.trace.prevLane
      next := (tr.next + 1) % 1024, sample := (tr.sample + 1) % 65536, trigSample := tr.sample, postDone := 1 } ∧
      u.svc.trace.entries.length = tr.entries.length + 1 ∧ u.svc.trace.entries.take tr.entries.length = tr.entries)

/-- A request that is not taken as new acts on nothing (R145, R146, R150, R152): one for another node only passes; in WAITING it is
answered BUSY, in HOLDING passed over; a repeat is answered with the stored reply; a count above 8 is a BAD_REQUEST. That the BUSY
reply has a count of 0 is DEDUCED, log 51. -/
def Obligations.UntakenRequestsActOnNothing : Prop :=
  ∀ (i : Instr) (t : Nat) (r : ReqArea) (s : State), requestRow i = some (t, r) → WellFormed i = true →
    let x := s.arrive t
    let p := s.resp
    (s.ring.address = 0 ∨ r.target ≠ s.ring.address → exec i s = .next x) ∧
    (s.ring.address ≠ 0 → r.target = s.ring.address →
      (p.state = .waiting → exec i s = .next { x with resp := { p with
        formed := some (s.replyWith r .busy []), counts := { p.counts with busy := bump p.counts.busy } } }) ∧
      (p.state = .holding → exec i s = .next { x with resp := { p with
        counts := { p.counts with deferred := bump p.counts.deferred } } }) ∧
      (∀ rep, p.state = .idle → p.repeated r = some rep → exec i s = .next { x with resp := { p with
        formed := some rep
        counts := { p.counts with taken := bump p.counts.taken, repeats := bump p.counts.repeats } } }) ∧
      (p.state = .idle → p.repeated r = none → 8 < r.count.toNat →
        exec i s = .next (s.answered t r .badRequest [])))

/-! ## What every step keeps -/

/-- The list of bad words stays in its canonical form, whatever the command. That the bad words are held as such a list is the model's
choice, log 9. -/
def Obligations.FlawsStayCanonical : Prop := ∀ s u : State, FlawsCanonical s → step s = .next u → FlawsCanonical u

/-- The responder's state agrees with its flight and its ready reply, and no reply that cannot be dropped is formed outside IDLE (8.4,
R149, R150); the map length, the walk limit and the fields of the entries stay in range (R126, R127); no mark is counted toward lock in
LOCKED and HOLDOVER (R63 to R65); the words of the frame being passed agree with where it stands (6.4, R117); a channel's fault code is
NONE exactly when it is neither FAULTED nor in a fault stop (R19) and its id_fw is 0 outside RUNNING and STOPPING (R22); at most one job of
a channel waits (R71); and the recorder holds at most 1 024 entries, its two counts together being at most that (R172, R176). Every command
keeps each. -/
def Obligations.BlocksStayConsistent : Prop :=
  (∀ s u : State, ResponderAgrees s → step s = .next u → ResponderAgrees u) ∧
  (∀ s u : State, MapControlInRange s → step s = .next u → MapControlInRange u) ∧
  (∀ s u : State, LockRunAtRest s → step s = .next u → LockRunAtRest u) ∧
  (∀ s u : State, FrameAgrees s → step s = .next u → FrameAgrees u) ∧
  (∀ s u : State, ChannelsAgree s → step s = .next u → ChannelsAgree u) ∧
  (∀ s u : State, OneQueuedJob s → step s = .next u → OneQueuedJob u) ∧
  (∀ s u : State, TraceInRange s → step s = .next u → TraceInRange u)

/-- The state after power-on meets every one of these conditions. -/
def Obligations.ResetIsSafe : Prop := Safe State.reset
end

