-- ==== Sys2Proof/Laws/State.lean ====
section
/-! SUPPORT. What each update of the state leaves and what it sets, field by field. -/

namespace Sys2Proof.Machine

open Sys2Proof

/-! ### advance -/

@[simp] theorem State.advance_pending (s : State) (t : Nat) : (s.advance t).pending = s.pending := rfl
@[simp] theorem State.advance_lostArms (s : State) (t : Nat) : (s.advance t).lostArms = s.lostArms := rfl
@[simp] theorem State.advance_ring (s : State) (t : Nat) : (s.advance t).ring = s.ring := rfl
@[simp] theorem State.advance_tb (s : State) (t : Nat) : (s.advance t).tb = s.tb := rfl
@[simp] theorem State.advance_channels (s : State) (t : Nat) : (s.advance t).channels = s.channels := rfl
@[simp] theorem State.advance_links (s : State) (t : Nat) : (s.advance t).links = s.links := rfl
@[simp] theorem State.advance_cu (s : State) (t : Nat) : (s.advance t).cu = s.cu := rfl
@[simp] theorem State.advance_share (s : State) (t : Nat) : (s.advance t).share = s.share := rfl
@[simp] theorem State.advance_walker (s : State) (t : Nat) : (s.advance t).walker = s.walker := rfl
@[simp] theorem State.advance_resp (s : State) (t : Nat) : (s.advance t).resp = s.resp := rfl
@[simp] theorem State.advance_svc (s : State) (t : Nat) : (s.advance t).svc = s.svc := rfl

/-! ### onChan -/

@[simp] theorem State.onChan_now (s : State) (c : Chan) (f : Channel → Channel) : (s.onChan c f).now = s.now := rfl
@[simp] theorem State.onChan_pending (s : State) (c : Chan) (f : Channel → Channel) : (s.onChan c f).pending = s.pending := rfl
@[simp] theorem State.onChan_lostArms (s : State) (c : Chan) (f : Channel → Channel) : (s.onChan c f).lostArms = s.lostArms := rfl
@[simp] theorem State.onChan_ring (s : State) (c : Chan) (f : Channel → Channel) : (s.onChan c f).ring = s.ring := rfl
@[simp] theorem State.onChan_tb (s : State) (c : Chan) (f : Channel → Channel) : (s.onChan c f).tb = s.tb := rfl
@[simp] theorem State.onChan_links (s : State) (c : Chan) (f : Channel → Channel) : (s.onChan c f).links = s.links := rfl
@[simp] theorem State.onChan_cu (s : State) (c : Chan) (f : Channel → Channel) : (s.onChan c f).cu = s.cu := rfl
@[simp] theorem State.onChan_share (s : State) (c : Chan) (f : Channel → Channel) : (s.onChan c f).share = s.share := rfl
@[simp] theorem State.onChan_walker (s : State) (c : Chan) (f : Channel → Channel) : (s.onChan c f).walker = s.walker := rfl
@[simp] theorem State.onChan_resp (s : State) (c : Chan) (f : Channel → Channel) : (s.onChan c f).resp = s.resp := rfl
@[simp] theorem State.onChan_svc (s : State) (c : Chan) (f : Channel → Channel) : (s.onChan c f).svc = s.svc := rfl

/-! ### onHid -/

@[simp] theorem State.onHid_now (s : State) (c : Chan) (f : Hidden → Hidden) : (s.onHid c f).now = s.now := rfl
@[simp] theorem State.onHid_pending (s : State) (c : Chan) (f : Hidden → Hidden) : (s.onHid c f).pending = s.pending := rfl
@[simp] theorem State.onHid_lostArms (s : State) (c : Chan) (f : Hidden → Hidden) : (s.onHid c f).lostArms = s.lostArms := rfl
@[simp] theorem State.onHid_ring (s : State) (c : Chan) (f : Hidden → Hidden) : (s.onHid c f).ring = s.ring := rfl
@[simp] theorem State.onHid_tb (s : State) (c : Chan) (f : Hidden → Hidden) : (s.onHid c f).tb = s.tb := rfl
@[simp] theorem State.onHid_links (s : State) (c : Chan) (f : Hidden → Hidden) : (s.onHid c f).links = s.links := rfl
@[simp] theorem State.onHid_cu (s : State) (c : Chan) (f : Hidden → Hidden) : (s.onHid c f).cu = s.cu := rfl
@[simp] theorem State.onHid_share (s : State) (c : Chan) (f : Hidden → Hidden) : (s.onHid c f).share = s.share := rfl
@[simp] theorem State.onHid_walker (s : State) (c : Chan) (f : Hidden → Hidden) : (s.onHid c f).walker = s.walker := rfl
@[simp] theorem State.onHid_resp (s : State) (c : Chan) (f : Hidden → Hidden) : (s.onHid c f).resp = s.resp := rfl
@[simp] theorem State.onHid_svc (s : State) (c : Chan) (f : Hidden → Hidden) : (s.onHid c f).svc = s.svc := rfl

/-! ### onCounts -/

@[simp] theorem State.onCounts_now (s : State) (c : Chan) (f : ChanCounts → ChanCounts) : (s.onCounts c f).now = s.now := rfl
@[simp] theorem State.onCounts_pending (s : State) (c : Chan) (f : ChanCounts → ChanCounts) : (s.onCounts c f).pending = s.pending := rfl
@[simp] theorem State.onCounts_lostArms (s : State) (c : Chan) (f : ChanCounts → ChanCounts) : (s.onCounts c f).lostArms = s.lostArms := rfl
@[simp] theorem State.onCounts_ring (s : State) (c : Chan) (f : ChanCounts → ChanCounts) : (s.onCounts c f).ring = s.ring := rfl
@[simp] theorem State.onCounts_tb (s : State) (c : Chan) (f : ChanCounts → ChanCounts) : (s.onCounts c f).tb = s.tb := rfl
@[simp] theorem State.onCounts_links (s : State) (c : Chan) (f : ChanCounts → ChanCounts) : (s.onCounts c f).links = s.links := rfl
@[simp] theorem State.onCounts_cu (s : State) (c : Chan) (f : ChanCounts → ChanCounts) : (s.onCounts c f).cu = s.cu := rfl
@[simp] theorem State.onCounts_share (s : State) (c : Chan) (f : ChanCounts → ChanCounts) : (s.onCounts c f).share = s.share := rfl
@[simp] theorem State.onCounts_walker (s : State) (c : Chan) (f : ChanCounts → ChanCounts) : (s.onCounts c f).walker = s.walker := rfl
@[simp] theorem State.onCounts_resp (s : State) (c : Chan) (f : ChanCounts → ChanCounts) : (s.onCounts c f).resp = s.resp := rfl
@[simp] theorem State.onCounts_svc (s : State) (c : Chan) (f : ChanCounts → ChanCounts) : (s.onCounts c f).svc = s.svc := rfl

/-! ### onLink -/

@[simp] theorem State.onLink_now (s : State) (c : Chan) (f : Link → Link) : (s.onLink c f).now = s.now := rfl
@[simp] theorem State.onLink_pending (s : State) (c : Chan) (f : Link → Link) : (s.onLink c f).pending = s.pending := rfl
@[simp] theorem State.onLink_lostArms (s : State) (c : Chan) (f : Link → Link) : (s.onLink c f).lostArms = s.lostArms := rfl
@[simp] theorem State.onLink_ring (s : State) (c : Chan) (f : Link → Link) : (s.onLink c f).ring = s.ring := rfl
@[simp] theorem State.onLink_tb (s : State) (c : Chan) (f : Link → Link) : (s.onLink c f).tb = s.tb := rfl
@[simp] theorem State.onLink_channels (s : State) (c : Chan) (f : Link → Link) : (s.onLink c f).channels = s.channels := rfl
@[simp] theorem State.onLink_cu (s : State) (c : Chan) (f : Link → Link) : (s.onLink c f).cu = s.cu := rfl
@[simp] theorem State.onLink_share (s : State) (c : Chan) (f : Link → Link) : (s.onLink c f).share = s.share := rfl
@[simp] theorem State.onLink_walker (s : State) (c : Chan) (f : Link → Link) : (s.onLink c f).walker = s.walker := rfl
@[simp] theorem State.onLink_resp (s : State) (c : Chan) (f : Link → Link) : (s.onLink c f).resp = s.resp := rfl
@[simp] theorem State.onLink_svc (s : State) (c : Chan) (f : Link → Link) : (s.onLink c f).svc = s.svc := rfl

/-! ### onLinkCounts -/

@[simp] theorem State.onLinkCounts_now (s : State) (c : Chan) (f : LinkCounts → LinkCounts) : (s.onLinkCounts c f).now = s.now := rfl
@[simp] theorem State.onLinkCounts_pending (s : State) (c : Chan) (f : LinkCounts → LinkCounts) : (s.onLinkCounts c f).pending = s.pending := rfl
@[simp] theorem State.onLinkCounts_lostArms (s : State) (c : Chan) (f : LinkCounts → LinkCounts) : (s.onLinkCounts c f).lostArms = s.lostArms := rfl
@[simp] theorem State.onLinkCounts_ring (s : State) (c : Chan) (f : LinkCounts → LinkCounts) : (s.onLinkCounts c f).ring = s.ring := rfl
@[simp] theorem State.onLinkCounts_tb (s : State) (c : Chan) (f : LinkCounts → LinkCounts) : (s.onLinkCounts c f).tb = s.tb := rfl
@[simp] theorem State.onLinkCounts_channels (s : State) (c : Chan) (f : LinkCounts → LinkCounts) : (s.onLinkCounts c f).channels = s.channels := rfl
@[simp] theorem State.onLinkCounts_cu (s : State) (c : Chan) (f : LinkCounts → LinkCounts) : (s.onLinkCounts c f).cu = s.cu := rfl
@[simp] theorem State.onLinkCounts_share (s : State) (c : Chan) (f : LinkCounts → LinkCounts) : (s.onLinkCounts c f).share = s.share := rfl
@[simp] theorem State.onLinkCounts_walker (s : State) (c : Chan) (f : LinkCounts → LinkCounts) : (s.onLinkCounts c f).walker = s.walker := rfl
@[simp] theorem State.onLinkCounts_resp (s : State) (c : Chan) (f : LinkCounts → LinkCounts) : (s.onLinkCounts c f).resp = s.resp := rfl
@[simp] theorem State.onLinkCounts_svc (s : State) (c : Chan) (f : LinkCounts → LinkCounts) : (s.onLinkCounts c f).svc = s.svc := rfl

/-! ### raise -/

@[simp] theorem State.raise_now (s : State) (k : EventClass) (d : Detail) : (s.raise k d).now = s.now := rfl
@[simp] theorem State.raise_pending (s : State) (k : EventClass) (d : Detail) : (s.raise k d).pending = s.pending := rfl
@[simp] theorem State.raise_lostArms (s : State) (k : EventClass) (d : Detail) : (s.raise k d).lostArms = s.lostArms := rfl
@[simp] theorem State.raise_ring (s : State) (k : EventClass) (d : Detail) : (s.raise k d).ring = s.ring := rfl
@[simp] theorem State.raise_tb (s : State) (k : EventClass) (d : Detail) : (s.raise k d).tb = s.tb := rfl
@[simp] theorem State.raise_channels (s : State) (k : EventClass) (d : Detail) : (s.raise k d).channels = s.channels := rfl
@[simp] theorem State.raise_links (s : State) (k : EventClass) (d : Detail) : (s.raise k d).links = s.links := rfl
@[simp] theorem State.raise_cu (s : State) (k : EventClass) (d : Detail) : (s.raise k d).cu = s.cu := rfl
@[simp] theorem State.raise_share (s : State) (k : EventClass) (d : Detail) : (s.raise k d).share = s.share := rfl
@[simp] theorem State.raise_walker (s : State) (k : EventClass) (d : Detail) : (s.raise k d).walker = s.walker := rfl
@[simp] theorem State.raise_resp (s : State) (k : EventClass) (d : Detail) : (s.raise k d).resp = s.resp := rfl

/-! ### storeRecord -/

@[simp] theorem State.storeRecord_now (s : State) (c : Chan) (ws : List Nat) (f : Record → Record) : (s.storeRecord c ws f).now = s.now := rfl
@[simp] theorem State.storeRecord_pending (s : State) (c : Chan) (ws : List Nat) (f : Record → Record) : (s.storeRecord c ws f).pending = s.pending := rfl
@[simp] theorem State.storeRecord_lostArms (s : State) (c : Chan) (ws : List Nat) (f : Record → Record) : (s.storeRecord c ws f).lostArms = s.lostArms := rfl
@[simp] theorem State.storeRecord_ring (s : State) (c : Chan) (ws : List Nat) (f : Record → Record) : (s.storeRecord c ws f).ring = s.ring := rfl
@[simp] theorem State.storeRecord_tb (s : State) (c : Chan) (ws : List Nat) (f : Record → Record) : (s.storeRecord c ws f).tb = s.tb := rfl
@[simp] theorem State.storeRecord_links (s : State) (c : Chan) (ws : List Nat) (f : Record → Record) : (s.storeRecord c ws f).links = s.links := rfl
@[simp] theorem State.storeRecord_cu (s : State) (c : Chan) (ws : List Nat) (f : Record → Record) : (s.storeRecord c ws f).cu = s.cu := rfl
@[simp] theorem State.storeRecord_share (s : State) (c : Chan) (ws : List Nat) (f : Record → Record) : (s.storeRecord c ws f).share = s.share := rfl
@[simp] theorem State.storeRecord_walker (s : State) (c : Chan) (ws : List Nat) (f : Record → Record) : (s.storeRecord c ws f).walker = s.walker := rfl
@[simp] theorem State.storeRecord_resp (s : State) (c : Chan) (ws : List Nat) (f : Record → Record) : (s.storeRecord c ws f).resp = s.resp := rfl

/-! ### storeStatus -/

@[simp] theorem State.storeStatus_now (s : State) (c : Chan) (ws : List Nat) (f : Status → Status) : (s.storeStatus c ws f).now = s.now := rfl
@[simp] theorem State.storeStatus_pending (s : State) (c : Chan) (ws : List Nat) (f : Status → Status) : (s.storeStatus c ws f).pending = s.pending := rfl
@[simp] theorem State.storeStatus_lostArms (s : State) (c : Chan) (ws : List Nat) (f : Status → Status) : (s.storeStatus c ws f).lostArms = s.lostArms := rfl
@[simp] theorem State.storeStatus_ring (s : State) (c : Chan) (ws : List Nat) (f : Status → Status) : (s.storeStatus c ws f).ring = s.ring := rfl
@[simp] theorem State.storeStatus_tb (s : State) (c : Chan) (ws : List Nat) (f : Status → Status) : (s.storeStatus c ws f).tb = s.tb := rfl
@[simp] theorem State.storeStatus_links (s : State) (c : Chan) (ws : List Nat) (f : Status → Status) : (s.storeStatus c ws f).links = s.links := rfl
@[simp] theorem State.storeStatus_cu (s : State) (c : Chan) (ws : List Nat) (f : Status → Status) : (s.storeStatus c ws f).cu = s.cu := rfl
@[simp] theorem State.storeStatus_share (s : State) (c : Chan) (ws : List Nat) (f : Status → Status) : (s.storeStatus c ws f).share = s.share := rfl
@[simp] theorem State.storeStatus_walker (s : State) (c : Chan) (ws : List Nat) (f : Status → Status) : (s.storeStatus c ws f).walker = s.walker := rfl
@[simp] theorem State.storeStatus_resp (s : State) (c : Chan) (ws : List Nat) (f : Status → Status) : (s.storeStatus c ws f).resp = s.resp := rfl

/-! ### onRing -/

@[simp] theorem State.onRing_now (s : State) (f : Ring → Ring) : (s.onRing f).now = s.now := rfl
@[simp] theorem State.onRing_pending (s : State) (f : Ring → Ring) : (s.onRing f).pending = s.pending := rfl
@[simp] theorem State.onRing_lostArms (s : State) (f : Ring → Ring) : (s.onRing f).lostArms = s.lostArms := rfl
@[simp] theorem State.onRing_tb (s : State) (f : Ring → Ring) : (s.onRing f).tb = s.tb := rfl
@[simp] theorem State.onRing_channels (s : State) (f : Ring → Ring) : (s.onRing f).channels = s.channels := rfl
@[simp] theorem State.onRing_links (s : State) (f : Ring → Ring) : (s.onRing f).links = s.links := rfl
@[simp] theorem State.onRing_cu (s : State) (f : Ring → Ring) : (s.onRing f).cu = s.cu := rfl
@[simp] theorem State.onRing_share (s : State) (f : Ring → Ring) : (s.onRing f).share = s.share := rfl
@[simp] theorem State.onRing_walker (s : State) (f : Ring → Ring) : (s.onRing f).walker = s.walker := rfl
@[simp] theorem State.onRing_resp (s : State) (f : Ring → Ring) : (s.onRing f).resp = s.resp := rfl
@[simp] theorem State.onRing_svc (s : State) (f : Ring → Ring) : (s.onRing f).svc = s.svc := rfl

/-! ### onRingCounts -/

@[simp] theorem State.onRingCounts_now (s : State) (f : RingCounts → RingCounts) : (s.onRingCounts f).now = s.now := rfl
@[simp] theorem State.onRingCounts_pending (s : State) (f : RingCounts → RingCounts) : (s.onRingCounts f).pending = s.pending := rfl
@[simp] theorem State.onRingCounts_lostArms (s : State) (f : RingCounts → RingCounts) : (s.onRingCounts f).lostArms = s.lostArms := rfl
@[simp] theorem State.onRingCounts_tb (s : State) (f : RingCounts → RingCounts) : (s.onRingCounts f).tb = s.tb := rfl
@[simp] theorem State.onRingCounts_channels (s : State) (f : RingCounts → RingCounts) : (s.onRingCounts f).channels = s.channels := rfl
@[simp] theorem State.onRingCounts_links (s : State) (f : RingCounts → RingCounts) : (s.onRingCounts f).links = s.links := rfl
@[simp] theorem State.onRingCounts_cu (s : State) (f : RingCounts → RingCounts) : (s.onRingCounts f).cu = s.cu := rfl
@[simp] theorem State.onRingCounts_share (s : State) (f : RingCounts → RingCounts) : (s.onRingCounts f).share = s.share := rfl
@[simp] theorem State.onRingCounts_walker (s : State) (f : RingCounts → RingCounts) : (s.onRingCounts f).walker = s.walker := rfl
@[simp] theorem State.onRingCounts_resp (s : State) (f : RingCounts → RingCounts) : (s.onRingCounts f).resp = s.resp := rfl
@[simp] theorem State.onRingCounts_svc (s : State) (f : RingCounts → RingCounts) : (s.onRingCounts f).svc = s.svc := rfl

/-! ### setFrame -/

@[simp] theorem State.setFrame_now (s : State) (f : Frame) : (s.setFrame f).now = s.now := rfl
@[simp] theorem State.setFrame_pending (s : State) (f : Frame) : (s.setFrame f).pending = s.pending := rfl
@[simp] theorem State.setFrame_lostArms (s : State) (f : Frame) : (s.setFrame f).lostArms = s.lostArms := rfl
@[simp] theorem State.setFrame_tb (s : State) (f : Frame) : (s.setFrame f).tb = s.tb := rfl
@[simp] theorem State.setFrame_channels (s : State) (f : Frame) : (s.setFrame f).channels = s.channels := rfl
@[simp] theorem State.setFrame_links (s : State) (f : Frame) : (s.setFrame f).links = s.links := rfl
@[simp] theorem State.setFrame_cu (s : State) (f : Frame) : (s.setFrame f).cu = s.cu := rfl
@[simp] theorem State.setFrame_share (s : State) (f : Frame) : (s.setFrame f).share = s.share := rfl
@[simp] theorem State.setFrame_walker (s : State) (f : Frame) : (s.setFrame f).walker = s.walker := rfl
@[simp] theorem State.setFrame_resp (s : State) (f : Frame) : (s.setFrame f).resp = s.resp := rfl
@[simp] theorem State.setFrame_svc (s : State) (f : Frame) : (s.setFrame f).svc = s.svc := rfl

/-! ### onResp -/

@[simp] theorem State.onResp_now (s : State) (f : Responder → Responder) : (s.onResp f).now = s.now := rfl
@[simp] theorem State.onResp_pending (s : State) (f : Responder → Responder) : (s.onResp f).pending = s.pending := rfl
@[simp] theorem State.onResp_lostArms (s : State) (f : Responder → Responder) : (s.onResp f).lostArms = s.lostArms := rfl
@[simp] theorem State.onResp_ring (s : State) (f : Responder → Responder) : (s.onResp f).ring = s.ring := rfl
@[simp] theorem State.onResp_tb (s : State) (f : Responder → Responder) : (s.onResp f).tb = s.tb := rfl
@[simp] theorem State.onResp_channels (s : State) (f : Responder → Responder) : (s.onResp f).channels = s.channels := rfl
@[simp] theorem State.onResp_links (s : State) (f : Responder → Responder) : (s.onResp f).links = s.links := rfl
@[simp] theorem State.onResp_cu (s : State) (f : Responder → Responder) : (s.onResp f).cu = s.cu := rfl
@[simp] theorem State.onResp_share (s : State) (f : Responder → Responder) : (s.onResp f).share = s.share := rfl
@[simp] theorem State.onResp_walker (s : State) (f : Responder → Responder) : (s.onResp f).walker = s.walker := rfl
@[simp] theorem State.onResp_svc (s : State) (f : Responder → Responder) : (s.onResp f).svc = s.svc := rfl

/-! ### onRespCounts -/

@[simp] theorem State.onRespCounts_now (s : State) (f : RespCounts → RespCounts) : (s.onRespCounts f).now = s.now := rfl
@[simp] theorem State.onRespCounts_pending (s : State) (f : RespCounts → RespCounts) : (s.onRespCounts f).pending = s.pending := rfl
@[simp] theorem State.onRespCounts_lostArms (s : State) (f : RespCounts → RespCounts) : (s.onRespCounts f).lostArms = s.lostArms := rfl
@[simp] theorem State.onRespCounts_ring (s : State) (f : RespCounts → RespCounts) : (s.onRespCounts f).ring = s.ring := rfl
@[simp] theorem State.onRespCounts_tb (s : State) (f : RespCounts → RespCounts) : (s.onRespCounts f).tb = s.tb := rfl
@[simp] theorem State.onRespCounts_channels (s : State) (f : RespCounts → RespCounts) : (s.onRespCounts f).channels = s.channels := rfl
@[simp] theorem State.onRespCounts_links (s : State) (f : RespCounts → RespCounts) : (s.onRespCounts f).links = s.links := rfl
@[simp] theorem State.onRespCounts_cu (s : State) (f : RespCounts → RespCounts) : (s.onRespCounts f).cu = s.cu := rfl
@[simp] theorem State.onRespCounts_share (s : State) (f : RespCounts → RespCounts) : (s.onRespCounts f).share = s.share := rfl
@[simp] theorem State.onRespCounts_walker (s : State) (f : RespCounts → RespCounts) : (s.onRespCounts f).walker = s.walker := rfl
@[simp] theorem State.onRespCounts_svc (s : State) (f : RespCounts → RespCounts) : (s.onRespCounts f).svc = s.svc := rfl

/-! ### onTrace -/

@[simp] theorem State.onTrace_now (s : State) (f : Trace → Trace) : (s.onTrace f).now = s.now := rfl
@[simp] theorem State.onTrace_pending (s : State) (f : Trace → Trace) : (s.onTrace f).pending = s.pending := rfl
@[simp] theorem State.onTrace_lostArms (s : State) (f : Trace → Trace) : (s.onTrace f).lostArms = s.lostArms := rfl
@[simp] theorem State.onTrace_ring (s : State) (f : Trace → Trace) : (s.onTrace f).ring = s.ring := rfl
@[simp] theorem State.onTrace_tb (s : State) (f : Trace → Trace) : (s.onTrace f).tb = s.tb := rfl
@[simp] theorem State.onTrace_channels (s : State) (f : Trace → Trace) : (s.onTrace f).channels = s.channels := rfl
@[simp] theorem State.onTrace_links (s : State) (f : Trace → Trace) : (s.onTrace f).links = s.links := rfl
@[simp] theorem State.onTrace_cu (s : State) (f : Trace → Trace) : (s.onTrace f).cu = s.cu := rfl
@[simp] theorem State.onTrace_share (s : State) (f : Trace → Trace) : (s.onTrace f).share = s.share := rfl
@[simp] theorem State.onTrace_walker (s : State) (f : Trace → Trace) : (s.onTrace f).walker = s.walker := rfl
@[simp] theorem State.onTrace_resp (s : State) (f : Trace → Trace) : (s.onTrace f).resp = s.resp := rfl

/-! ### onWalkCounts -/

@[simp] theorem State.onWalkCounts_now (s : State) (f : WalkCounts → WalkCounts) : (s.onWalkCounts f).now = s.now := rfl
@[simp] theorem State.onWalkCounts_pending (s : State) (f : WalkCounts → WalkCounts) : (s.onWalkCounts f).pending = s.pending := rfl
@[simp] theorem State.onWalkCounts_lostArms (s : State) (f : WalkCounts → WalkCounts) : (s.onWalkCounts f).lostArms = s.lostArms := rfl
@[simp] theorem State.onWalkCounts_ring (s : State) (f : WalkCounts → WalkCounts) : (s.onWalkCounts f).ring = s.ring := rfl
@[simp] theorem State.onWalkCounts_tb (s : State) (f : WalkCounts → WalkCounts) : (s.onWalkCounts f).tb = s.tb := rfl
@[simp] theorem State.onWalkCounts_channels (s : State) (f : WalkCounts → WalkCounts) : (s.onWalkCounts f).channels = s.channels := rfl
@[simp] theorem State.onWalkCounts_links (s : State) (f : WalkCounts → WalkCounts) : (s.onWalkCounts f).links = s.links := rfl
@[simp] theorem State.onWalkCounts_cu (s : State) (f : WalkCounts → WalkCounts) : (s.onWalkCounts f).cu = s.cu := rfl
@[simp] theorem State.onWalkCounts_share (s : State) (f : WalkCounts → WalkCounts) : (s.onWalkCounts f).share = s.share := rfl
@[simp] theorem State.onWalkCounts_resp (s : State) (f : WalkCounts → WalkCounts) : (s.onWalkCounts f).resp = s.resp := rfl
@[simp] theorem State.onWalkCounts_svc (s : State) (f : WalkCounts → WalkCounts) : (s.onWalkCounts f).svc = s.svc := rfl

/-! ### answered -/

@[simp] theorem State.answered_pending (s : State) (t : Nat) (r : ReqArea) (st : ReplyStatus) (data : List Word) (n : Nat) :
    (s.answered t r st data n).pending = s.pending := rfl
@[simp] theorem State.answered_tb (s : State) (t : Nat) (r : ReqArea) (st : ReplyStatus) (data : List Word) (n : Nat) :
    (s.answered t r st data n).tb = s.tb := rfl
@[simp] theorem State.answered_channels (s : State) (t : Nat) (r : ReqArea) (st : ReplyStatus) (data : List Word) (n : Nat) :
    (s.answered t r st data n).channels = s.channels := rfl
@[simp] theorem State.answered_links (s : State) (t : Nat) (r : ReqArea) (st : ReplyStatus) (data : List Word) (n : Nat) :
    (s.answered t r st data n).links = s.links := rfl
@[simp] theorem State.answered_cu (s : State) (t : Nat) (r : ReqArea) (st : ReplyStatus) (data : List Word) (n : Nat) :
    (s.answered t r st data n).cu = s.cu := rfl
@[simp] theorem State.answered_share (s : State) (t : Nat) (r : ReqArea) (st : ReplyStatus) (data : List Word) (n : Nat) :
    (s.answered t r st data n).share = s.share := rfl
@[simp] theorem State.answered_walker (s : State) (t : Nat) (r : ReqArea) (st : ReplyStatus) (data : List Word) (n : Nat) :
    (s.answered t r st data n).walker = s.walker := rfl
@[simp] theorem State.answered_svc (s : State) (t : Nat) (r : ReqArea) (st : ReplyStatus) (data : List Word) (n : Nat) :
    (s.answered t r st data n).svc = s.svc := rfl
@[simp] theorem State.answered_ring (s : State) (t : Nat) (r : ReqArea) (st : ReplyStatus) (data : List Word) (n : Nat) :
    (s.answered t r st data n).ring = s.ring.settle (max s.now t) := rfl
@[simp] theorem State.answered_now (s : State) (t : Nat) (r : ReqArea) (st : ReplyStatus) (data : List Word) (n : Nat) :
    (s.answered t r st data n).now = max s.now t := rfl

/-! ### arrive and heard -/

@[simp] theorem State.arrive_pending (s : State) (t : Nat) : (s.arrive t).pending = s.pending := rfl
@[simp] theorem State.arrive_lostArms (s : State) (t : Nat) : (s.arrive t).lostArms = s.lostArms := rfl
@[simp] theorem State.arrive_tb (s : State) (t : Nat) : (s.arrive t).tb = s.tb := rfl
@[simp] theorem State.arrive_channels (s : State) (t : Nat) : (s.arrive t).channels = s.channels := rfl
@[simp] theorem State.arrive_links (s : State) (t : Nat) : (s.arrive t).links = s.links := rfl
@[simp] theorem State.arrive_cu (s : State) (t : Nat) : (s.arrive t).cu = s.cu := rfl
@[simp] theorem State.arrive_share (s : State) (t : Nat) : (s.arrive t).share = s.share := rfl
@[simp] theorem State.arrive_walker (s : State) (t : Nat) : (s.arrive t).walker = s.walker := rfl
@[simp] theorem State.arrive_svc (s : State) (t : Nat) : (s.arrive t).svc = s.svc := rfl
@[simp] theorem State.arrive_resp (s : State) (t : Nat) : (s.arrive t).resp = s.resp := rfl
@[simp] theorem State.heard_pending (s : State) (t : Nat) : (s.heard t).pending = s.pending := rfl
@[simp] theorem State.heard_lostArms (s : State) (t : Nat) : (s.heard t).lostArms = s.lostArms := rfl
@[simp] theorem State.heard_tb (s : State) (t : Nat) : (s.heard t).tb = s.tb := rfl
@[simp] theorem State.heard_channels (s : State) (t : Nat) : (s.heard t).channels = s.channels := rfl
@[simp] theorem State.heard_links (s : State) (t : Nat) : (s.heard t).links = s.links := rfl
@[simp] theorem State.heard_cu (s : State) (t : Nat) : (s.heard t).cu = s.cu := rfl
@[simp] theorem State.heard_share (s : State) (t : Nat) : (s.heard t).share = s.share := rfl
@[simp] theorem State.heard_walker (s : State) (t : Nat) : (s.heard t).walker = s.walker := rfl
@[simp] theorem State.heard_svc (s : State) (t : Nat) : (s.heard t).svc = s.svc := rfl
@[simp] theorem State.heard_resp (s : State) (t : Nat) : (s.heard t).resp = s.resp := rfl
@[simp] theorem State.arrive_now (s : State) (t : Nat) : (s.arrive t).now = max s.now t := rfl
@[simp] theorem State.heard_now (s : State) (t : Nat) : (s.heard t).now = max s.now t := rfl
@[simp] theorem State.arrive_ring (s : State) (t : Nat) : (s.arrive t).ring = s.ring.settle (max s.now t) := rfl
@[simp] theorem State.heard_frame (s : State) (t : Nat) : (s.heard t).ring.frame = (s.arrive t).ring.frame := rfl

/-! ### What the updates set -/

@[simp] theorem State.advance_now (s : State) (t : Nat) : (s.advance t).now = max s.now t := rfl
@[simp] theorem State.onRing_ring (s : State) (f : Ring → Ring) : (s.onRing f).ring = f s.ring := rfl
@[simp] theorem State.onResp_resp (s : State) (f : Responder → Responder) : (s.onResp f).resp = f s.resp := rfl
@[simp] theorem State.setFrame_frame (s : State) (f : Frame) : (s.setFrame f).ring.frame = some f := rfl
@[simp] theorem State.raise_svc (s : State) (k : EventClass) (d : Detail) : (s.raise k d).svc = s.svc.raise k d := rfl
@[simp] theorem State.check_svc (s : State) (l : Loc) : (s.check l).2.svc = (s.svc.check l).2 := rfl
@[simp] theorem State.checkAll_svc (s : State) (ls : List Loc) : (s.checkAll ls).2.svc = (s.svc.checkAll ls).2 := rfl
@[simp] theorem State.check_ok (s : State) (l : Loc) : (s.check l).1 = (s.svc.check l).1 := rfl
@[simp] theorem State.checkAll_ok (s : State) (ls : List Loc) : (s.checkAll ls).1 = (s.svc.checkAll ls).1 := rfl

@[simp] theorem State.check_now (s : State) (l : Loc) : (s.check l).2.now = s.now := rfl
@[simp] theorem State.check_pending (s : State) (l : Loc) : (s.check l).2.pending = s.pending := rfl
@[simp] theorem State.check_lostArms (s : State) (l : Loc) : (s.check l).2.lostArms = s.lostArms := rfl
@[simp] theorem State.check_ring (s : State) (l : Loc) : (s.check l).2.ring = s.ring := rfl
@[simp] theorem State.check_tb (s : State) (l : Loc) : (s.check l).2.tb = s.tb := rfl
@[simp] theorem State.check_channels (s : State) (l : Loc) : (s.check l).2.channels = s.channels := rfl
@[simp] theorem State.check_links (s : State) (l : Loc) : (s.check l).2.links = s.links := rfl
@[simp] theorem State.check_cu (s : State) (l : Loc) : (s.check l).2.cu = s.cu := rfl
@[simp] theorem State.check_share (s : State) (l : Loc) : (s.check l).2.share = s.share := rfl
@[simp] theorem State.check_walker (s : State) (l : Loc) : (s.check l).2.walker = s.walker := rfl
@[simp] theorem State.check_resp (s : State) (l : Loc) : (s.check l).2.resp = s.resp := rfl
@[simp] theorem State.checkAll_now (s : State) (ls : List Loc) : (s.checkAll ls).2.now = s.now := rfl
@[simp] theorem State.checkAll_pending (s : State) (ls : List Loc) : (s.checkAll ls).2.pending = s.pending := rfl
@[simp] theorem State.checkAll_lostArms (s : State) (ls : List Loc) : (s.checkAll ls).2.lostArms = s.lostArms := rfl
@[simp] theorem State.checkAll_ring (s : State) (ls : List Loc) : (s.checkAll ls).2.ring = s.ring := rfl
@[simp] theorem State.checkAll_tb (s : State) (ls : List Loc) : (s.checkAll ls).2.tb = s.tb := rfl
@[simp] theorem State.checkAll_channels (s : State) (ls : List Loc) : (s.checkAll ls).2.channels = s.channels := rfl
@[simp] theorem State.checkAll_links (s : State) (ls : List Loc) : (s.checkAll ls).2.links = s.links := rfl
@[simp] theorem State.checkAll_cu (s : State) (ls : List Loc) : (s.checkAll ls).2.cu = s.cu := rfl
@[simp] theorem State.checkAll_share (s : State) (ls : List Loc) : (s.checkAll ls).2.share = s.share := rfl
@[simp] theorem State.checkAll_walker (s : State) (ls : List Loc) : (s.checkAll ls).2.walker = s.walker := rfl
@[simp] theorem State.checkAll_resp (s : State) (ls : List Loc) : (s.checkAll ls).2.resp = s.resp := rfl

/-! ### One channel, one link -/

@[simp] theorem State.chan_arrive (s : State) (t : Nat) (d : Chan) : (s.arrive t).chan d = s.chan d := rfl
@[simp] theorem State.link_arrive (s : State) (t : Nat) (d : Chan) : (s.arrive t).link d = s.link d := rfl
@[simp] theorem State.chan_heard (s : State) (t : Nat) (d : Chan) : (s.heard t).chan d = s.chan d := rfl
@[simp] theorem State.link_heard (s : State) (t : Nat) (d : Chan) : (s.heard t).link d = s.link d := rfl

@[simp] theorem State.chan_onChan (s : State) (c : Chan) (f : Channel → Channel) : (s.onChan c f).chan c = f (s.chan c) := by
  simp [State.onChan, State.chan]

theorem State.chan_onChan_ne (s : State) {c d : Chan} (h : c ≠ d) (f : Channel → Channel) :
    (s.onChan c f).chan d = s.chan d := by
  have : c.val ≠ d.val := fun e => h (Fin.ext e)
  simp [State.onChan, State.chan, this]

@[simp] theorem State.link_onLink (s : State) (c : Chan) (f : Link → Link) : (s.onLink c f).link c = f (s.link c) := by
  simp [State.onLink, State.link]

theorem State.link_onLink_ne (s : State) {c d : Chan} (h : c ≠ d) (f : Link → Link) : (s.onLink c f).link d = s.link d := by
  have : c.val ≠ d.val := fun e => h (Fin.ext e)
  simp [State.onLink, State.link, this]

@[simp] theorem State.chan_onLink (s : State) (c d : Chan) (f : Link → Link) : (s.onLink c f).chan d = s.chan d := rfl
@[simp] theorem State.link_onChan (s : State) (c d : Chan) (f : Channel → Channel) : (s.onChan c f).link d = s.link d := rfl
@[simp] theorem State.chan_raise (s : State) (k : EventClass) (x : Detail) (d : Chan) : (s.raise k x).chan d = s.chan d := rfl
@[simp] theorem State.link_raise (s : State) (k : EventClass) (x : Detail) (d : Chan) : (s.raise k x).link d = s.link d := rfl
@[simp] theorem State.chan_advance (s : State) (t : Nat) (d : Chan) : (s.advance t).chan d = s.chan d := rfl
@[simp] theorem State.link_advance (s : State) (t : Nat) (d : Chan) : (s.advance t).link d = s.link d := rfl

end Sys2Proof.Machine
end

