-- ==== Sys2Proof/Laws/Keeps.lean ====
section
/-! SUPPORT. What each operation leaves alone: one lemma per operation, the parts of the state it keeps. -/

namespace Sys2Proof.Machine

open Sys2Proof

/-! ### Folds -/

@[simp] theorem foldl_now {β : Type} (f : State → β → State) (h : ∀ s x, (f s x).now = s.now) (l : List β) :
    ∀ s, (l.foldl f s).now = s.now := by
  induction l with
  | nil => intro s; rfl
  | cons x l ih => intro s; simp [ih, h]

@[simp] theorem foldl_pending {β : Type} (f : State → β → State) (h : ∀ s x, (f s x).pending = s.pending) (l : List β) :
    ∀ s, (l.foldl f s).pending = s.pending := by
  induction l with
  | nil => intro s; rfl
  | cons x l ih => intro s; simp [ih, h]

@[simp] theorem foldl_ring {β : Type} (f : State → β → State) (h : ∀ s x, (f s x).ring = s.ring) (l : List β) :
    ∀ s, (l.foldl f s).ring = s.ring := by
  induction l with
  | nil => intro s; rfl
  | cons x l ih => intro s; simp [ih, h]

@[simp] theorem foldl_tb {β : Type} (f : State → β → State) (h : ∀ s x, (f s x).tb = s.tb) (l : List β) :
    ∀ s, (l.foldl f s).tb = s.tb := by
  induction l with
  | nil => intro s; rfl
  | cons x l ih => intro s; simp [ih, h]

@[simp] theorem foldl_channels {β : Type} (f : State → β → State) (h : ∀ s x, (f s x).channels = s.channels) (l : List β) :
    ∀ s, (l.foldl f s).channels = s.channels := by
  induction l with
  | nil => intro s; rfl
  | cons x l ih => intro s; simp [ih, h]

@[simp] theorem foldl_links {β : Type} (f : State → β → State) (h : ∀ s x, (f s x).links = s.links) (l : List β) :
    ∀ s, (l.foldl f s).links = s.links := by
  induction l with
  | nil => intro s; rfl
  | cons x l ih => intro s; simp [ih, h]

@[simp] theorem foldl_cu {β : Type} (f : State → β → State) (h : ∀ s x, (f s x).cu = s.cu) (l : List β) :
    ∀ s, (l.foldl f s).cu = s.cu := by
  induction l with
  | nil => intro s; rfl
  | cons x l ih => intro s; simp [ih, h]

@[simp] theorem foldl_share {β : Type} (f : State → β → State) (h : ∀ s x, (f s x).share = s.share) (l : List β) :
    ∀ s, (l.foldl f s).share = s.share := by
  induction l with
  | nil => intro s; rfl
  | cons x l ih => intro s; simp [ih, h]

@[simp] theorem foldl_walker {β : Type} (f : State → β → State) (h : ∀ s x, (f s x).walker = s.walker) (l : List β) :
    ∀ s, (l.foldl f s).walker = s.walker := by
  induction l with
  | nil => intro s; rfl
  | cons x l ih => intro s; simp [ih, h]

@[simp] theorem foldl_resp {β : Type} (f : State → β → State) (h : ∀ s x, (f s x).resp = s.resp) (l : List β) :
    ∀ s, (l.foldl f s).resp = s.resp := by
  induction l with
  | nil => intro s; rfl
  | cons x l ih => intro s; simp [ih, h]

@[simp] theorem foldl_svc {β : Type} (f : State → β → State) (h : ∀ s x, (f s x).svc = s.svc) (l : List β) :
    ∀ s, (l.foldl f s).svc = s.svc := by
  induction l with
  | nil => intro s; rfl
  | cons x l ih => intro s; simp [ih, h]

@[simp] theorem State.checkEach_keeps (ls : List Loc) (s : State) :
    (s.checkEach ls).2.now = s.now ∧ (s.checkEach ls).2.pending = s.pending ∧ (s.checkEach ls).2.ring = s.ring ∧
      (s.checkEach ls).2.tb = s.tb ∧ (s.checkEach ls).2.channels = s.channels ∧ (s.checkEach ls).2.links = s.links ∧
      (s.checkEach ls).2.cu = s.cu ∧ (s.checkEach ls).2.share = s.share ∧ (s.checkEach ls).2.walker = s.walker ∧
      (s.checkEach ls).2.resp = s.resp := by
  induction ls generalizing s with
  | nil => simp [State.checkEach]
  | cons l ls ih => simp [State.checkEach, ih]

@[simp] theorem State.badWords_keeps (s : State) (ls : List Loc) :
    (s.badWords ls).2.now = s.now ∧ (s.badWords ls).2.pending = s.pending ∧ (s.badWords ls).2.ring = s.ring ∧
      (s.badWords ls).2.tb = s.tb ∧ (s.badWords ls).2.channels = s.channels ∧ (s.badWords ls).2.links = s.links ∧
      (s.badWords ls).2.cu = s.cu ∧ (s.badWords ls).2.share = s.share ∧ (s.badWords ls).2.walker = s.walker ∧
      (s.badWords ls).2.resp = s.resp := by
  simp [State.badWords]

@[simp] theorem State.readState_keeps (s : State) (c : Chan) :
    (s.readState c).2.now = s.now ∧ (s.readState c).2.pending = s.pending ∧ (s.readState c).2.ring = s.ring ∧
      (s.readState c).2.tb = s.tb ∧ (s.readState c).2.channels = s.channels ∧ (s.readState c).2.links = s.links ∧
      (s.readState c).2.cu = s.cu ∧ (s.readState c).2.share = s.share ∧ (s.readState c).2.walker = s.walker ∧
      (s.readState c).2.resp = s.resp := by
  simp [State.readState]

@[simp] theorem State.readAck_keeps (s : State) (c : Chan) :
    ((s.readAck c).2).now = s.now ∧
      ((s.readAck c).2).pending = s.pending ∧
      ((s.readAck c).2).ring = s.ring ∧
      ((s.readAck c).2).tb = s.tb ∧
      ((s.readAck c).2).channels = s.channels ∧
      ((s.readAck c).2).links = s.links ∧
      ((s.readAck c).2).cu = s.cu ∧
      ((s.readAck c).2).share = s.share ∧
      ((s.readAck c).2).walker = s.walker ∧
      ((s.readAck c).2).resp = s.resp := by
  unfold State.readAck
  split <;> simp

@[simp] theorem State.startRecord_keeps (s : State) (c : Chan) (src : RecordSource) :
    (s.startRecord c src).now = s.now ∧
      (s.startRecord c src).pending = s.pending ∧
      (s.startRecord c src).ring = s.ring ∧
      (s.startRecord c src).tb = s.tb ∧
      (s.startRecord c src).channels = s.channels ∧
      (s.startRecord c src).cu = s.cu ∧
      (s.startRecord c src).share = s.share ∧
      (s.startRecord c src).walker = s.walker ∧
      (s.startRecord c src).resp = s.resp := by
  simp [State.startRecord]

@[simp] theorem State.handRecord_keeps (s : State) (c : Chan) (src : RecordSource) :
    (s.handRecord c src).now = s.now ∧
      (s.handRecord c src).pending = s.pending ∧
      (s.handRecord c src).ring = s.ring ∧
      (s.handRecord c src).tb = s.tb ∧
      (s.handRecord c src).channels = s.channels ∧
      (s.handRecord c src).cu = s.cu ∧
      (s.handRecord c src).share = s.share ∧
      (s.handRecord c src).walker = s.walker ∧
      (s.handRecord c src).resp = s.resp := by
  unfold State.handRecord
  split <;> simp

@[simp] theorem State.startWaitingRecord_keeps (s : State) (c : Chan) :
    (s.startWaitingRecord c).now = s.now ∧
      (s.startWaitingRecord c).pending = s.pending ∧
      (s.startWaitingRecord c).ring = s.ring ∧
      (s.startWaitingRecord c).tb = s.tb ∧
      (s.startWaitingRecord c).channels = s.channels ∧
      (s.startWaitingRecord c).cu = s.cu ∧
      (s.startWaitingRecord c).share = s.share ∧
      (s.startWaitingRecord c).walker = s.walker ∧
      (s.startWaitingRecord c).resp = s.resp := by
  unfold State.startWaitingRecord
  split <;> simp

@[simp] theorem State.applyWrite_keeps (s : State) (c : Chan) (ps : List (Nat × Int)) :
    (s.applyWrite c ps).now = s.now ∧ (s.applyWrite c ps).pending = s.pending ∧ (s.applyWrite c ps).ring = s.ring ∧
      (s.applyWrite c ps).tb = s.tb ∧ (s.applyWrite c ps).links = s.links ∧ (s.applyWrite c ps).cu = s.cu ∧
      (s.applyWrite c ps).share = s.share ∧ (s.applyWrite c ps).walker = s.walker ∧ (s.applyWrite c ps).resp = s.resp := by
  unfold State.applyWrite
  dsimp only
  (repeat' split) <;> simp

@[simp] theorem State.enterState_keeps (s : State) (c : Chan) (st : ChanState) (ws : List Nat) (f : Status → Status) :
    (s.enterState c st ws f).now = s.now ∧ (s.enterState c st ws f).pending = s.pending ∧
      (s.enterState c st ws f).ring = s.ring ∧ (s.enterState c st ws f).tb = s.tb ∧
      (s.enterState c st ws f).links = s.links ∧ (s.enterState c st ws f).share = s.share ∧
      (s.enterState c st ws f).walker = s.walker ∧ (s.enterState c st ws f).resp = s.resp := by
  simp [State.enterState]

@[simp] theorem State.gateOff_keeps (s : State) (c : Chan) :
    (s.gateOff c).now = s.now ∧ (s.gateOff c).pending = s.pending ∧ (s.gateOff c).ring = s.ring ∧ (s.gateOff c).tb = s.tb ∧
      (s.gateOff c).channels = s.channels ∧ (s.gateOff c).cu = s.cu ∧ (s.gateOff c).share = s.share ∧
      (s.gateOff c).walker = s.walker ∧ (s.gateOff c).resp = s.resp := by
  simp [State.gateOff]

@[simp] theorem State.enterStopping_keeps (s : State) (c : Chan) (k : StopKind) (code : FaultCode) :
    (s.enterStopping c k code).now = s.now ∧ (s.enterStopping c k code).pending = s.pending ∧
      (s.enterStopping c k code).ring = s.ring ∧ (s.enterStopping c k code).tb = s.tb ∧
      (s.enterStopping c k code).links = s.links ∧ (s.enterStopping c k code).share = s.share ∧
      (s.enterStopping c k code).walker = s.walker ∧ (s.enterStopping c k code).resp = s.resp := by
  simp [State.enterStopping]

@[simp] theorem State.raiseFault_keeps (s : State) (c : Chan) (code : FaultCode) :
    (s.raiseFault c code).now = s.now ∧ (s.raiseFault c code).pending = s.pending ∧ (s.raiseFault c code).ring = s.ring ∧
      (s.raiseFault c code).tb = s.tb ∧ (s.raiseFault c code).channels = s.channels ∧
      (s.raiseFault c code).links = s.links ∧ (s.raiseFault c code).cu = s.cu ∧ (s.raiseFault c code).share = s.share ∧
      (s.raiseFault c code).walker = s.walker ∧ (s.raiseFault c code).resp = s.resp := by
  simp [State.raiseFault]

@[simp] theorem State.readPairing_keeps (s : State) (c : Chan) :
    (s.readPairing c).2.now = s.now ∧ (s.readPairing c).2.pending = s.pending ∧ (s.readPairing c).2.ring = s.ring ∧
      (s.readPairing c).2.tb = s.tb ∧ (s.readPairing c).2.channels = s.channels ∧ (s.readPairing c).2.links = s.links ∧
      (s.readPairing c).2.cu = s.cu ∧ (s.readPairing c).2.share = s.share ∧ (s.readPairing c).2.walker = s.walker ∧
      (s.readPairing c).2.resp = s.resp := by
  simp [State.readPairing]

@[simp] theorem State.readPair_keeps (s : State) (c : Chan) (asks : Role → Bool) :
    (s.readPair c asks).2.now = s.now ∧ (s.readPair c asks).2.pending = s.pending ∧ (s.readPair c asks).2.ring = s.ring ∧
      (s.readPair c asks).2.tb = s.tb ∧ (s.readPair c asks).2.channels = s.channels ∧ (s.readPair c asks).2.links = s.links ∧
      (s.readPair c asks).2.cu = s.cu ∧ (s.readPair c asks).2.share = s.share ∧ (s.readPair c asks).2.walker = s.walker ∧
      (s.readPair c asks).2.resp = s.resp := by
  unfold State.readPair
  dsimp only
  split <;> simp

@[simp] theorem State.partnerFault_keeps (s : State) (c : Chan) :
    (s.partnerFault c).now = s.now ∧ (s.partnerFault c).pending = s.pending ∧ (s.partnerFault c).ring = s.ring ∧
      (s.partnerFault c).tb = s.tb ∧ (s.partnerFault c).links = s.links ∧ (s.partnerFault c).share = s.share ∧
      (s.partnerFault c).walker = s.walker ∧ (s.partnerFault c).resp = s.resp := by
  unfold State.partnerFault State.onPartner
  dsimp only
  (repeat' split) <;> simp

@[simp] theorem State.leaderLeft_keeps (s : State) (c : Chan) :
    (s.leaderLeft c).now = s.now ∧ (s.leaderLeft c).pending = s.pending ∧ (s.leaderLeft c).ring = s.ring ∧
      (s.leaderLeft c).tb = s.tb ∧ (s.leaderLeft c).links = s.links ∧ (s.leaderLeft c).share = s.share ∧
      (s.leaderLeft c).walker = s.walker ∧ (s.leaderLeft c).resp = s.resp := by
  unfold State.leaderLeft State.onPartner
  dsimp only
  (repeat' split) <;> simp

@[simp] theorem State.enterFaulted_keeps (s : State) (c : Chan) (code : FaultCode) (old : Option ChanState) (atOnce : Bool) :
    (s.enterFaulted c code old atOnce).now = s.now ∧ (s.enterFaulted c code old atOnce).pending = s.pending ∧
      (s.enterFaulted c code old atOnce).ring = s.ring ∧ (s.enterFaulted c code old atOnce).tb = s.tb ∧
      (s.enterFaulted c code old atOnce).share = s.share ∧ (s.enterFaulted c code old atOnce).walker = s.walker ∧
      (s.enterFaulted c code old atOnce).resp = s.resp := by
  unfold State.enterFaulted
  (repeat' split) <;> simp

@[simp] theorem State.immediateFault_keeps (s : State) (c : Chan) (code : FaultCode) (old : Option ChanState) (atOnce : Bool) :
    (s.immediateFault c code old atOnce).now = s.now ∧ (s.immediateFault c code old atOnce).pending = s.pending ∧
      (s.immediateFault c code old atOnce).ring = s.ring ∧ (s.immediateFault c code old atOnce).tb = s.tb ∧
      (s.immediateFault c code old atOnce).share = s.share ∧ (s.immediateFault c code old atOnce).walker = s.walker ∧
      (s.immediateFault c code old atOnce).resp = s.resp := by
  simp [State.immediateFault]

@[simp] theorem State.calibrationFault_keeps (s : State) (c : Chan) :
    (s.calibrationFault c).now = s.now ∧ (s.calibrationFault c).pending = s.pending ∧
      (s.calibrationFault c).ring = s.ring ∧ (s.calibrationFault c).tb = s.tb ∧ (s.calibrationFault c).share = s.share ∧
      (s.calibrationFault c).walker = s.walker ∧ (s.calibrationFault c).resp = s.resp := by
  simp [State.calibrationFault]

@[simp] theorem State.rampFault_keeps (s : State) (c : Chan) (code : FaultCode) (st : ChanState) :
    (s.rampFault c code st).now = s.now ∧ (s.rampFault c code st).pending = s.pending ∧ (s.rampFault c code st).ring = s.ring ∧
      (s.rampFault c code st).tb = s.tb ∧ (s.rampFault c code st).links = s.links ∧ (s.rampFault c code st).share = s.share ∧
      (s.rampFault c code st).walker = s.walker ∧ (s.rampFault c code st).resp = s.resp := by
  unfold State.rampFault
  (repeat' split) <;> simp

@[simp] theorem State.endStop_keeps (s : State) (c : Chan) :
    (s.endStop c).now = s.now ∧ (s.endStop c).pending = s.pending ∧ (s.endStop c).ring = s.ring ∧ (s.endStop c).tb = s.tb ∧
      (s.endStop c).links = s.links ∧ (s.endStop c).share = s.share ∧ (s.endStop c).walker = s.walker ∧
      (s.endStop c).resp = s.resp := by
  simp [State.endStop]

@[simp] theorem State.enterOff_keeps (s : State) (c : Chan) (old : ChanState) :
    (s.enterOff c old).now = s.now ∧ (s.enterOff c old).pending = s.pending ∧ (s.enterOff c old).ring = s.ring ∧
      (s.enterOff c old).tb = s.tb ∧ (s.enterOff c old).share = s.share ∧ (s.enterOff c old).walker = s.walker ∧
      (s.enterOff c old).resp = s.resp := by
  unfold State.enterOff
  dsimp only
  (repeat' split) <;> simp

@[simp] theorem State.reject_keeps (s : State) (c : Chan) (r : RejectReason) :
    (s.reject c r).now = s.now ∧ (s.reject c r).pending = s.pending ∧ (s.reject c r).ring = s.ring ∧
      (s.reject c r).tb = s.tb ∧ (s.reject c r).channels = s.channels ∧ (s.reject c r).links = s.links ∧
      (s.reject c r).cu = s.cu ∧ (s.reject c r).share = s.share ∧ (s.reject c r).walker = s.walker ∧
      (s.reject c r).resp = s.resp := by
  simp [State.reject]

@[simp] theorem State.armPairFails_keeps (s : State) (c : Chan) :
    (s.armPairFails c).2.now = s.now ∧ (s.armPairFails c).2.pending = s.pending ∧ (s.armPairFails c).2.ring = s.ring ∧
      (s.armPairFails c).2.tb = s.tb ∧ (s.armPairFails c).2.channels = s.channels ∧ (s.armPairFails c).2.links = s.links ∧
      (s.armPairFails c).2.cu = s.cu ∧ (s.armPairFails c).2.share = s.share ∧ (s.armPairFails c).2.walker = s.walker ∧
      (s.armPairFails c).2.resp = s.resp := by
  unfold State.armPairFails
  dsimp only
  (repeat' split) <;> simp

@[simp] theorem State.armReason_keeps (s : State) (c : Chan) :
    (s.armReason c).2.now = s.now ∧ (s.armReason c).2.pending = s.pending ∧ (s.armReason c).2.ring = s.ring ∧
      (s.armReason c).2.tb = s.tb ∧ (s.armReason c).2.channels = s.channels ∧ (s.armReason c).2.links = s.links ∧
      (s.armReason c).2.cu = s.cu ∧ (s.armReason c).2.share = s.share ∧ (s.armReason c).2.walker = s.walker ∧
      (s.armReason c).2.resp = s.resp := by
  unfold State.armReason
  dsimp only
  (repeat' split) <;> simp

@[simp] theorem State.enterCalibrating_keeps (s : State) (c : Chan) :
    (s.enterCalibrating c).now = s.now ∧ (s.enterCalibrating c).pending = s.pending ∧
      (s.enterCalibrating c).ring = s.ring ∧ (s.enterCalibrating c).tb = s.tb ∧
      (s.enterCalibrating c).share = s.share ∧ (s.enterCalibrating c).walker = s.walker ∧
      (s.enterCalibrating c).resp = s.resp := by
  unfold State.enterCalibrating
  dsimp only
  (repeat' split) <;> simp

@[simp] theorem State.actArm_keeps (s : State) (c : Chan) :
    (s.actArm c).now = s.now ∧ (s.actArm c).pending = s.pending ∧ (s.actArm c).ring = s.ring ∧ (s.actArm c).tb = s.tb ∧
      (s.actArm c).share = s.share ∧ (s.actArm c).walker = s.walker ∧ (s.actArm c).resp = s.resp := by
  unfold State.actArm
  dsimp only
  split <;> simp

@[simp] theorem State.enterRunning_keeps (s : State) (c : Chan) :
    (s.enterRunning c).now = s.now ∧ (s.enterRunning c).pending = s.pending ∧ (s.enterRunning c).ring = s.ring ∧
      (s.enterRunning c).tb = s.tb ∧ (s.enterRunning c).links = s.links ∧ (s.enterRunning c).share = s.share ∧
      (s.enterRunning c).walker = s.walker ∧ (s.enterRunning c).resp = s.resp := by
  simp [State.enterRunning]

@[simp] theorem State.runReason_keeps (s : State) (c : Chan) :
    (s.runReason c).2.now = s.now ∧ (s.runReason c).2.pending = s.pending ∧ (s.runReason c).2.ring = s.ring ∧
      (s.runReason c).2.tb = s.tb ∧ (s.runReason c).2.channels = s.channels ∧ (s.runReason c).2.links = s.links ∧
      (s.runReason c).2.cu = s.cu ∧ (s.runReason c).2.share = s.share ∧ (s.runReason c).2.walker = s.walker ∧
      (s.runReason c).2.resp = s.resp := by
  unfold State.runReason
  dsimp only
  (repeat' split) <;> simp

@[simp] theorem State.actRun_keeps (s : State) (c : Chan) :
    (s.actRun c).now = s.now ∧ (s.actRun c).pending = s.pending ∧ (s.actRun c).ring = s.ring ∧ (s.actRun c).tb = s.tb ∧
      (s.actRun c).links = s.links ∧ (s.actRun c).share = s.share ∧ (s.actRun c).walker = s.walker ∧
      (s.actRun c).resp = s.resp := by
  unfold State.actRun
  dsimp only
  split <;> simp

@[simp] theorem State.actClear_keeps (s : State) (c : Chan) :
    (s.actClear c).now = s.now ∧ (s.actClear c).pending = s.pending ∧ (s.actClear c).ring = s.ring ∧
      (s.actClear c).tb = s.tb ∧ (s.actClear c).share = s.share ∧ (s.actClear c).walker = s.walker ∧
      (s.actClear c).resp = s.resp := by
  unfold State.actClear
  dsimp only
  (repeat' split) <;> simp

@[simp] theorem State.actHalt_keeps (s : State) (c : Chan) :
    (s.actHalt c).now = s.now ∧ (s.actHalt c).pending = s.pending ∧ (s.actHalt c).ring = s.ring ∧ (s.actHalt c).tb = s.tb ∧
      (s.actHalt c).links = s.links ∧ (s.actHalt c).share = s.share ∧ (s.actHalt c).walker = s.walker ∧
      (s.actHalt c).resp = s.resp := by
  simp [State.actHalt]

@[simp] theorem State.actCode_keeps (s : State) (c : Chan) (code old : RequestCode) (st : ChanState) :
    (s.actCode c code old st).now = s.now ∧ (s.actCode c code old st).pending = s.pending ∧
      (s.actCode c code old st).ring = s.ring ∧ (s.actCode c code old st).tb = s.tb ∧
      (s.actCode c code old st).share = s.share ∧ (s.actCode c code old st).walker = s.walker ∧
      (s.actCode c code old st).resp = s.resp := by
  unfold State.actCode
  (repeat' split) <;> simp

@[simp] theorem State.writeLatch_keeps (s : State) (c : Chan) (code : RequestCode) :
    (s.writeLatch c code).now = s.now ∧ (s.writeLatch c code).pending = s.pending ∧ (s.writeLatch c code).ring = s.ring ∧
      (s.writeLatch c code).tb = s.tb ∧ (s.writeLatch c code).share = s.share ∧ (s.writeLatch c code).walker = s.walker ∧
      (s.writeLatch c code).resp = s.resp := by
  simp [State.writeLatch]

@[simp] theorem State.capture_keeps (s : State) :
    s.capture.now = s.now ∧ s.capture.pending = s.pending ∧ s.capture.ring = s.ring ∧ s.capture.tb = s.tb ∧
      s.capture.channels = s.channels ∧ s.capture.links = s.links ∧ s.capture.cu = s.cu ∧ s.capture.share = s.share ∧
      s.capture.walker = s.walker ∧ s.capture.resp = s.resp := by
  unfold State.capture
  dsimp only
  split <;> simp

@[simp] theorem State.captureFor_keeps (s : State) (c : Chan) :
    (s.captureFor c).now = s.now ∧ (s.captureFor c).pending = s.pending ∧ (s.captureFor c).ring = s.ring ∧
      (s.captureFor c).tb = s.tb ∧ (s.captureFor c).channels = s.channels ∧ (s.captureFor c).links = s.links ∧
      (s.captureFor c).cu = s.cu ∧ (s.captureFor c).share = s.share ∧ (s.captureFor c).walker = s.walker ∧
      (s.captureFor c).resp = s.resp := by
  unfold State.captureFor
  split <;> simp

@[simp] theorem State.fetchData_keeps (s : State) :
    (s.fetchData).2.now = s.now ∧ (s.fetchData).2.pending = s.pending ∧ (s.fetchData).2.ring = s.ring ∧
      (s.fetchData).2.tb = s.tb ∧ (s.fetchData).2.channels = s.channels ∧ (s.fetchData).2.links = s.links ∧
      (s.fetchData).2.cu = s.cu ∧ (s.fetchData).2.share = s.share ∧ (s.fetchData).2.walker = s.walker ∧
      (s.fetchData).2.resp = s.resp := by
  simp [State.fetchData]

@[simp] theorem State.handFinal_keeps (s : State) (st : ReplyStatus) (data : List Word) :
    (s.handFinal st data).now = s.now ∧ (s.handFinal st data).pending = s.pending ∧ (s.handFinal st data).ring = s.ring ∧
      (s.handFinal st data).tb = s.tb ∧ (s.handFinal st data).channels = s.channels ∧
      (s.handFinal st data).links = s.links ∧ (s.handFinal st data).cu = s.cu ∧ (s.handFinal st data).share = s.share ∧
      (s.handFinal st data).walker = s.walker ∧ (s.handFinal st data).svc = s.svc := by
  unfold State.handFinal
  split <;> simp

@[simp] theorem State.passReply_keeps (s : State) (c : Chan) (rp : PassReply) :
    (s.passReply c rp).now = s.now ∧ (s.passReply c rp).pending = s.pending ∧ (s.passReply c rp).ring = s.ring ∧
      (s.passReply c rp).tb = s.tb ∧ (s.passReply c rp).channels = s.channels ∧ (s.passReply c rp).cu = s.cu ∧
      (s.passReply c rp).share = s.share ∧ (s.passReply c rp).walker = s.walker ∧ (s.passReply c rp).svc = s.svc := by
  unfold State.passReply
  (repeat' split) <;> simp

@[simp] theorem State.readDegraded_keeps (s : State) (c : Chan) :
    (s.readDegraded c).2.now = s.now ∧ (s.readDegraded c).2.pending = s.pending ∧ (s.readDegraded c).2.ring = s.ring ∧
      (s.readDegraded c).2.tb = s.tb ∧ (s.readDegraded c).2.channels = s.channels ∧ (s.readDegraded c).2.links = s.links ∧
      (s.readDegraded c).2.cu = s.cu ∧ (s.readDegraded c).2.share = s.share ∧ (s.readDegraded c).2.walker = s.walker ∧
      (s.readDegraded c).2.resp = s.resp := by
  simp [State.readDegraded]

@[simp] theorem State.testDegraded_keeps (s : State) (c : Chan) (n limit : Nat) (old : ChanState) (atOnce : Bool) :
    (s.testDegraded c n limit old atOnce).now = s.now ∧ (s.testDegraded c n limit old atOnce).pending = s.pending ∧
      (s.testDegraded c n limit old atOnce).ring = s.ring ∧ (s.testDegraded c n limit old atOnce).tb = s.tb ∧
      (s.testDegraded c n limit old atOnce).share = s.share ∧ (s.testDegraded c n limit old atOnce).walker = s.walker ∧
      (s.testDegraded c n limit old atOnce).resp = s.resp := by
  unfold State.testDegraded
  split <;> simp

@[simp] theorem State.degraded_keeps (s : State) (c : Chan) (atOnce : Bool) :
    (s.degraded c atOnce).now = s.now ∧ (s.degraded c atOnce).pending = s.pending ∧ (s.degraded c atOnce).ring = s.ring ∧
      (s.degraded c atOnce).tb = s.tb ∧ (s.degraded c atOnce).share = s.share ∧ (s.degraded c atOnce).walker = s.walker ∧
      (s.degraded c atOnce).resp = s.resp := by
  unfold State.degraded
  dsimp only
  (repeat' split) <;> simp

@[simp] theorem State.leaderIq_keeps (s : State) (c : Chan) :
    (s.leaderIq c).2.now = s.now ∧ (s.leaderIq c).2.pending = s.pending ∧ (s.leaderIq c).2.ring = s.ring ∧
      (s.leaderIq c).2.tb = s.tb ∧ (s.leaderIq c).2.channels = s.channels ∧ (s.leaderIq c).2.links = s.links ∧
      (s.leaderIq c).2.cu = s.cu ∧ (s.leaderIq c).2.share = s.share ∧ (s.leaderIq c).2.walker = s.walker ∧
      (s.leaderIq c).2.resp = s.resp := by
  unfold State.leaderIq
  dsimp only
  (repeat' split) <;> simp

@[simp] theorem State.serve_keeps (s : State) (j : Job) (st : ChanState) (blocked : Bool) :
    (s.serve j st blocked).now = s.now ∧ (s.serve j st blocked).pending = s.pending ∧
      (s.serve j st blocked).ring = s.ring ∧ (s.serve j st blocked).tb = s.tb ∧
      (s.serve j st blocked).channels = s.channels ∧ (s.serve j st blocked).links = s.links ∧
      (s.serve j st blocked).share = s.share ∧ (s.serve j st blocked).walker = s.walker ∧
      (s.serve j st blocked).resp = s.resp := by
  unfold State.serve
  dsimp only
  (repeat' split) <;> simp

@[simp] theorem State.faultChecks_keeps (s : State) (j : Job) :
    (s.faultChecks j).now = s.now ∧ (s.faultChecks j).pending = s.pending ∧ (s.faultChecks j).ring = s.ring ∧
      (s.faultChecks j).tb = s.tb ∧ (s.faultChecks j).share = s.share ∧ (s.faultChecks j).walker = s.walker ∧
      (s.faultChecks j).resp = s.resp := by
  unfold State.faultChecks
  dsimp only
  (repeat' split) <;> simp

@[simp] theorem State.startJob_keeps (s : State) (j : Job) :
    (s.startJob j).now = s.now ∧ (s.startJob j).pending = s.pending ∧ (s.startJob j).ring = s.ring ∧
      (s.startJob j).tb = s.tb ∧ (s.startJob j).share = s.share ∧ (s.startJob j).walker = s.walker ∧
      (s.startJob j).resp = s.resp := by
  unfold State.startJob
  dsimp only
  (repeat' split) <;> simp

@[simp] theorem State.abandon_keeps (s : State) (j : Job) :
    (s.abandon j).now = s.now ∧ (s.abandon j).pending = s.pending ∧ (s.abandon j).ring = s.ring ∧ (s.abandon j).tb = s.tb ∧
      (s.abandon j).share = s.share ∧ (s.abandon j).walker = s.walker ∧ (s.abandon j).resp = s.resp := by
  simp [State.abandon]

@[simp] theorem State.takeHeads_keeps (n : Nat) (s : State) :
    (s.takeHeads n).now = s.now ∧ (s.takeHeads n).pending = s.pending ∧ (s.takeHeads n).ring = s.ring ∧
      (s.takeHeads n).tb = s.tb ∧ (s.takeHeads n).share = s.share ∧ (s.takeHeads n).walker = s.walker ∧
      (s.takeHeads n).resp = s.resp := by
  induction n generalizing s with
  | zero => simp [State.takeHeads]
  | succ n ih => unfold State.takeHeads; (repeat' split) <;> simp [ih]

@[simp] theorem State.dispatchJobs_keeps (s : State) :
    s.dispatchJobs.now = s.now ∧ s.dispatchJobs.pending = s.pending ∧ s.dispatchJobs.ring = s.ring ∧
      s.dispatchJobs.tb = s.tb ∧ s.dispatchJobs.share = s.share ∧ s.dispatchJobs.walker = s.walker ∧
      s.dispatchJobs.resp = s.resp := by
  simp [State.dispatchJobs]

@[simp] theorem State.overrun_keeps (s : State) (c : Chan) :
    (s.overrun c).now = s.now ∧ (s.overrun c).pending = s.pending ∧ (s.overrun c).ring = s.ring ∧ (s.overrun c).tb = s.tb ∧
      (s.overrun c).share = s.share ∧ (s.overrun c).walker = s.walker ∧ (s.overrun c).resp = s.resp := by
  unfold State.overrun
  split <;> simp

@[simp] theorem State.createJob_keeps (s : State) (j : Job) :
    (s.createJob j).now = s.now ∧ (s.createJob j).pending = s.pending ∧ (s.createJob j).ring = s.ring ∧
      (s.createJob j).tb = s.tb ∧ (s.createJob j).share = s.share ∧ (s.createJob j).walker = s.walker ∧
      (s.createJob j).resp = s.resp := by
  simp [State.createJob]

@[simp] theorem State.sampleMiss_keeps (s : State) (c : Chan) (m : MissCause) :
    (s.sampleMiss c m).now = s.now ∧ (s.sampleMiss c m).pending = s.pending ∧ (s.sampleMiss c m).ring = s.ring ∧
      (s.sampleMiss c m).tb = s.tb ∧ (s.sampleMiss c m).channels = s.channels ∧ (s.sampleMiss c m).cu = s.cu ∧
      (s.sampleMiss c m).share = s.share ∧ (s.sampleMiss c m).walker = s.walker ∧ (s.sampleMiss c m).resp = s.resp := by
  simp [State.sampleMiss]

@[simp] theorem State.expireWindow_keeps (s : State) (c : Chan) (w : Window) :
    (s.expireWindow c w).now = s.now ∧ (s.expireWindow c w).pending = s.pending ∧ (s.expireWindow c w).ring = s.ring ∧
      (s.expireWindow c w).tb = s.tb ∧ (s.expireWindow c w).share = s.share ∧ (s.expireWindow c w).walker = s.walker ∧
      (s.expireWindow c w).resp = s.resp := by
  simp [State.expireWindow]

@[simp] theorem State.useReport_keeps (s : State) (c : Chan) (r : StageReport) :
    (s.useReport c r).now = s.now ∧ (s.useReport c r).pending = s.pending ∧ (s.useReport c r).ring = s.ring ∧
      (s.useReport c r).tb = s.tb ∧ (s.useReport c r).channels = s.channels ∧ (s.useReport c r).cu = s.cu ∧
      (s.useReport c r).share = s.share ∧ (s.useReport c r).walker = s.walker ∧ (s.useReport c r).svc = s.svc := by
  unfold State.useReport
  split <;> simp

@[simp] theorem State.parityError_keeps (s : State) (c : Chan) :
    (s.parityError c).now = s.now ∧ (s.parityError c).pending = s.pending ∧ (s.parityError c).ring = s.ring ∧
      (s.parityError c).tb = s.tb ∧ (s.parityError c).channels = s.channels ∧ (s.parityError c).cu = s.cu ∧
      (s.parityError c).share = s.share ∧ (s.parityError c).walker = s.walker ∧ (s.parityError c).resp = s.resp ∧
      (s.parityError c).svc = s.svc := by
  simp [State.parityError]

@[simp] theorem State.crossPath_keeps (s : State) (c : Chan) (pathGood : Bool) :
    (s.crossPath c pathGood).2.now = s.now ∧ (s.crossPath c pathGood).2.pending = s.pending ∧
      (s.crossPath c pathGood).2.ring = s.ring ∧ (s.crossPath c pathGood).2.tb = s.tb ∧
      (s.crossPath c pathGood).2.channels = s.channels ∧ (s.crossPath c pathGood).2.links = s.links ∧
      (s.crossPath c pathGood).2.cu = s.cu ∧ (s.crossPath c pathGood).2.share = s.share ∧
      (s.crossPath c pathGood).2.walker = s.walker ∧ (s.crossPath c pathGood).2.resp = s.resp := by
  simp [State.crossPath]

@[simp] theorem State.closeWindow_keeps (s : State) (c : Chan) (w : Window) (parityGood : Bool) (r : StageReport) :
    (s.closeWindow c w parityGood r).now = s.now ∧ (s.closeWindow c w parityGood r).pending = s.pending ∧
      (s.closeWindow c w parityGood r).ring = s.ring ∧ (s.closeWindow c w parityGood r).tb = s.tb ∧
      (s.closeWindow c w parityGood r).share = s.share ∧ (s.closeWindow c w parityGood r).walker = s.walker := by
  unfold State.closeWindow
  dsimp only
  (repeat' split) <;> simp

@[simp] theorem State.routeReport_keeps (s : State) (c : Chan) (parityGood : Bool) (r : StageReport) :
    (s.routeReport c parityGood r).now = s.now ∧ (s.routeReport c parityGood r).pending = s.pending ∧
      (s.routeReport c parityGood r).ring = s.ring ∧ (s.routeReport c parityGood r).tb = s.tb ∧
      (s.routeReport c parityGood r).share = s.share ∧ (s.routeReport c parityGood r).walker = s.walker := by
  unfold State.routeReport
  (repeat' split) <;> simp

@[simp] theorem State.openWindow_keeps (s : State) (c : Chan) (e : PeriodEvent) :
    (s.openWindow c e).now = s.now ∧ (s.openWindow c e).pending = s.pending ∧ (s.openWindow c e).ring = s.ring ∧
      (s.openWindow c e).tb = s.tb ∧ (s.openWindow c e).cu = s.cu ∧ (s.openWindow c e).share = s.share ∧
      (s.openWindow c e).walker = s.walker ∧ (s.openWindow c e).resp = s.resp ∧ (s.openWindow c e).svc = s.svc := by
  simp [State.openWindow]

@[simp] theorem State.countPeriod_keeps (s : State) (c : Chan) :
    (s.countPeriod c).now = s.now ∧ (s.countPeriod c).pending = s.pending ∧ (s.countPeriod c).ring = s.ring ∧
      (s.countPeriod c).tb = s.tb ∧ (s.countPeriod c).share = s.share ∧ (s.countPeriod c).walker = s.walker ∧
      (s.countPeriod c).resp = s.resp := by
  unfold State.countPeriod State.readStopLimit
  dsimp only
  (repeat' split) <;> simp

@[simp] theorem State.openEvent_keeps (s : State) (c : Chan) (e : PeriodEvent) :
    (s.openEvent c e).pending = s.pending ∧ (s.openEvent c e).ring = s.ring ∧ (s.openEvent c e).tb = s.tb ∧
      (s.openEvent c e).share = s.share ∧ (s.openEvent c e).walker = s.walker ∧ (s.openEvent c e).resp = s.resp := by
  unfold State.openEvent
  dsimp only
  split <;> simp

@[simp] theorem State.fallEvent_keeps (s : State) (c : Chan) (e : PeriodEvent) :
    (s.fallEvent c e).pending = s.pending ∧ (s.fallEvent c e).ring = s.ring ∧ (s.fallEvent c e).tb = s.tb ∧
      (s.fallEvent c e).share = s.share ∧ (s.fallEvent c e).walker = s.walker ∧ (s.fallEvent c e).resp = s.resp := by
  simp [State.fallEvent]

@[simp] theorem State.rampDone_keeps (s : State) (c : Chan) (v : Service) (n : NormalResult) :
    (s.rampDone c v n).2.now = s.now ∧ (s.rampDone c v n).2.pending = s.pending ∧ (s.rampDone c v n).2.ring = s.ring ∧
      (s.rampDone c v n).2.tb = s.tb ∧ (s.rampDone c v n).2.channels = s.channels ∧ (s.rampDone c v n).2.links = s.links ∧
      (s.rampDone c v n).2.cu = s.cu ∧ (s.rampDone c v n).2.share = s.share ∧ (s.rampDone c v n).2.walker = s.walker ∧
      (s.rampDone c v n).2.resp = s.resp := by
  unfold State.rampDone
  dsimp only
  split <;> simp

@[simp] theorem State.finishNormal_keeps (s : State) (v : Service) (rep : StageReport) :
    (s.finishNormal v rep).now = s.now ∧ (s.finishNormal v rep).pending = s.pending ∧
      (s.finishNormal v rep).ring = s.ring ∧ (s.finishNormal v rep).tb = s.tb ∧ (s.finishNormal v rep).share = s.share ∧
      (s.finishNormal v rep).walker = s.walker ∧ (s.finishNormal v rep).resp = s.resp := by
  unfold State.finishNormal
  dsimp only
  (repeat' split) <;> simp

@[simp] theorem State.finishBlind_keeps (s : State) (v : Service) :
    (s.finishBlind v).now = s.now ∧ (s.finishBlind v).pending = s.pending ∧ (s.finishBlind v).ring = s.ring ∧
      (s.finishBlind v).tb = s.tb ∧ (s.finishBlind v).share = s.share ∧ (s.finishBlind v).walker = s.walker ∧
      (s.finishBlind v).resp = s.resp := by
  simp [State.finishBlind]

@[simp] theorem State.endCalibration_keeps (s : State) (c : Chan) :
    (s.endCalibration c).now = s.now ∧ (s.endCalibration c).pending = s.pending ∧ (s.endCalibration c).ring = s.ring ∧
      (s.endCalibration c).tb = s.tb ∧ (s.endCalibration c).share = s.share ∧ (s.endCalibration c).walker = s.walker ∧
      (s.endCalibration c).resp = s.resp := by
  unfold State.endCalibration
  dsimp only
  (repeat' split) <;> simp

@[simp] theorem State.finishMeasure_keeps (s : State) (v : Service) :
    (s.finishMeasure v).now = s.now ∧ (s.finishMeasure v).pending = s.pending ∧ (s.finishMeasure v).ring = s.ring ∧
      (s.finishMeasure v).tb = s.tb ∧ (s.finishMeasure v).share = s.share ∧ (s.finishMeasure v).walker = s.walker ∧
      (s.finishMeasure v).resp = s.resp := by
  unfold State.finishMeasure
  dsimp only
  (repeat' split) <;> simp

@[simp] theorem State.deliver_keeps (s : State) (v : Service) :
    (s.deliver v).now = s.now ∧ (s.deliver v).pending = s.pending ∧ (s.deliver v).ring = s.ring ∧ (s.deliver v).tb = s.tb ∧
      (s.deliver v).share = s.share ∧ (s.deliver v).walker = s.walker ∧ (s.deliver v).resp = s.resp := by
  unfold State.deliver
  (repeat' split) <;> simp

@[simp] theorem State.applyHeld_keeps (s : State) (c : Chan) :
    (s.applyHeld c).now = s.now ∧ (s.applyHeld c).pending = s.pending ∧ (s.applyHeld c).ring = s.ring ∧
      (s.applyHeld c).tb = s.tb ∧ (s.applyHeld c).links = s.links ∧ (s.applyHeld c).cu = s.cu ∧
      (s.applyHeld c).share = s.share ∧ (s.applyHeld c).walker = s.walker ∧ (s.applyHeld c).resp = s.resp := by
  simp [State.applyHeld]

@[simp] theorem State.completeJob_keeps (s : State) (v : Service) :
    (s.completeJob v).now = s.now ∧ (s.completeJob v).pending = s.pending ∧ (s.completeJob v).ring = s.ring ∧
      (s.completeJob v).tb = s.tb ∧ (s.completeJob v).share = s.share ∧ (s.completeJob v).walker = s.walker ∧
      (s.completeJob v).resp = s.resp := by
  simp [State.completeJob]

@[simp] theorem State.takeMark_keeps (s : State) (stamp : Nat) :
    (s.takeMark stamp).now = s.now ∧ (s.takeMark stamp).pending = s.pending ∧ (s.takeMark stamp).ring = s.ring ∧
      (s.takeMark stamp).links = s.links ∧ (s.takeMark stamp).cu = s.cu ∧ (s.takeMark stamp).share = s.share ∧
      (s.takeMark stamp).walker = s.walker ∧ (s.takeMark stamp).resp = s.resp := by
  unfold State.takeMark
  dsimp only
  (repeat' split) <;> simp

@[simp] theorem State.boundaryTest_keeps (s : State) :
    s.boundaryTest.now = s.now ∧ s.boundaryTest.pending = s.pending ∧ s.boundaryTest.ring = s.ring ∧
      s.boundaryTest.channels = s.channels ∧ s.boundaryTest.links = s.links ∧ s.boundaryTest.cu = s.cu ∧
      s.boundaryTest.share = s.share ∧ s.boundaryTest.walker = s.walker ∧ s.boundaryTest.resp = s.resp := by
  unfold State.boundaryTest
  dsimp only
  split <;> simp

@[simp] theorem State.budgetLine_keeps (s : State) (c : Chan) :
    (s.budgetLine c).2.now = s.now ∧ (s.budgetLine c).2.pending = s.pending ∧ (s.budgetLine c).2.ring = s.ring ∧
      (s.budgetLine c).2.tb = s.tb ∧ (s.budgetLine c).2.channels = s.channels ∧ (s.budgetLine c).2.links = s.links ∧
      (s.budgetLine c).2.cu = s.cu ∧ (s.budgetLine c).2.share = s.share ∧ (s.budgetLine c).2.walker = s.walker ∧
      (s.budgetLine c).2.resp = s.resp := by
  simp [State.budgetLine]

@[simp] theorem State.storeGrants_keeps (s : State) (f : List Nat) :
    (s.storeGrants f).now = s.now ∧ (s.storeGrants f).pending = s.pending ∧ (s.storeGrants f).ring = s.ring ∧
      (s.storeGrants f).tb = s.tb ∧ (s.storeGrants f).links = s.links ∧ (s.storeGrants f).cu = s.cu ∧
      (s.storeGrants f).share = s.share ∧ (s.storeGrants f).walker = s.walker ∧ (s.storeGrants f).resp = s.resp := by
  simp [State.storeGrants]

@[simp] theorem State.budgetLines_keeps (cs : List Chan) (s : State) :
    (s.budgetLines cs).2.now = s.now ∧ (s.budgetLines cs).2.pending = s.pending ∧ (s.budgetLines cs).2.ring = s.ring ∧
      (s.budgetLines cs).2.tb = s.tb ∧ (s.budgetLines cs).2.channels = s.channels ∧ (s.budgetLines cs).2.links = s.links ∧
      (s.budgetLines cs).2.cu = s.cu ∧ (s.budgetLines cs).2.share = s.share ∧ (s.budgetLines cs).2.walker = s.walker ∧
      (s.budgetLines cs).2.resp = s.resp := by
  induction cs generalizing s with
  | nil => simp [State.budgetLines]
  | cons c cs ih => simp [State.budgetLines, ih]

@[simp] theorem State.budget_keeps (s : State) :
    s.budget.now = s.now ∧ s.budget.pending = s.pending ∧ s.budget.ring = s.ring ∧ s.budget.tb = s.tb ∧
      s.budget.links = s.links ∧ s.budget.cu = s.cu ∧ s.budget.walker = s.walker ∧ s.budget.resp = s.resp := by
  unfold State.budget
  dsimp only
  (repeat' split) <;> simp

@[simp] theorem State.countMiss_keeps (s : State) (c : Chan) (n : Nat) :
    (s.countMiss c n).now = s.now ∧ (s.countMiss c n).pending = s.pending ∧ (s.countMiss c n).ring = s.ring ∧
      (s.countMiss c n).tb = s.tb ∧ (s.countMiss c n).links = s.links ∧ (s.countMiss c n).share = s.share ∧
      (s.countMiss c n).walker = s.walker ∧ (s.countMiss c n).resp = s.resp := by
  unfold State.countMiss
  dsimp only
  (repeat' split) <;> simp

@[simp] theorem State.handoff_keeps (s : State) (c : Chan) :
    (s.handoff c).now = s.now ∧ (s.handoff c).pending = s.pending ∧ (s.handoff c).ring = s.ring ∧ (s.handoff c).tb = s.tb ∧
      (s.handoff c).links = s.links ∧ (s.handoff c).share = s.share ∧ (s.handoff c).walker = s.walker ∧
      (s.handoff c).resp = s.resp := by
  unfold State.handoff
  dsimp only
  (repeat' split) <;> simp

@[simp] theorem State.newCycle_keeps (s : State) (c : Chan) :
    (s.newCycle c).now = s.now ∧ (s.newCycle c).pending = s.pending ∧ (s.newCycle c).ring = s.ring ∧
      (s.newCycle c).tb = s.tb ∧ (s.newCycle c).cu = s.cu ∧ (s.newCycle c).share = s.share ∧
      (s.newCycle c).walker = s.walker ∧ (s.newCycle c).resp = s.resp := by
  unfold State.newCycle
  dsimp only
  split <;> simp

@[simp] theorem State.boundary_keeps (s : State) (order : List Chan) :
    (s.boundary order).pending = s.pending ∧ (s.boundary order).ring = s.ring ∧ (s.boundary order).walker = s.walker ∧
      (s.boundary order).resp = s.resp := by
  simp [State.boundary]

@[simp] theorem State.readGates_keeps (cs : List Chan) (s : State) :
    (s.readGates cs).2.now = s.now ∧ (s.readGates cs).2.pending = s.pending ∧ (s.readGates cs).2.ring = s.ring ∧
      (s.readGates cs).2.tb = s.tb ∧ (s.readGates cs).2.channels = s.channels ∧ (s.readGates cs).2.links = s.links ∧
      (s.readGates cs).2.cu = s.cu ∧ (s.readGates cs).2.share = s.share ∧ (s.readGates cs).2.walker = s.walker ∧
      (s.readGates cs).2.resp = s.resp := by
  induction cs generalizing s with
  | nil => simp [State.readGates]
  | cons c cs ih => simp [State.readGates, ih]

@[simp] theorem State.softReset_keeps (s : State) :
    s.softReset.now = s.now ∧ s.softReset.pending = s.pending ∧ s.softReset.tb = s.tb ∧ s.softReset.resp = s.resp := by
  simp [State.softReset]

@[simp] theorem State.ringReset_keeps (s : State) :
    s.ringReset.now = s.now ∧ s.ringReset.pending = s.pending := by
  simp [State.ringReset]

@[simp] theorem State.nodeReset_keeps (s : State) :
    s.nodeReset.now = s.now ∧ s.nodeReset.pending = s.pending := by
  simp [State.nodeReset]

@[simp] theorem State.clearCounters_keeps (s : State) :
    s.clearCounters.now = s.now ∧ s.clearCounters.pending = s.pending ∧ s.clearCounters.cu = s.cu ∧
      s.clearCounters.svc = s.svc := by
  simp [State.clearCounters]

@[simp] theorem State.putChan_keeps (s : State) (c : Chan) (item : Nat) (w : Word) :
    (s.putChan c item w).2.now = s.now ∧ (s.putChan c item w).2.pending = s.pending ∧
      (s.putChan c item w).2.ring = s.ring ∧ (s.putChan c item w).2.tb = s.tb ∧
      (s.putChan c item w).2.channels = s.channels ∧ (s.putChan c item w).2.links = s.links ∧
      (s.putChan c item w).2.cu = s.cu ∧ (s.putChan c item w).2.share = s.share ∧
      (s.putChan c item w).2.walker = s.walker ∧ (s.putChan c item w).2.resp = s.resp := by
  simp [State.putChan]

@[simp] theorem State.endWalk_keeps (s : State) (e : LastEnd) :
    (s.endWalk e).now = s.now ∧ (s.endWalk e).pending = s.pending ∧ (s.endWalk e).ring = s.ring ∧ (s.endWalk e).tb = s.tb ∧
      (s.endWalk e).channels = s.channels ∧ (s.endWalk e).links = s.links ∧ (s.endWalk e).cu = s.cu ∧
      (s.endWalk e).share = s.share ∧ (s.endWalk e).resp = s.resp ∧ (s.endWalk e).svc = s.svc := by
  simp [State.endWalk]

@[simp] theorem State.mapLimit_keeps (s : State) (k : LimitCause) (i : Nat) :
    (s.mapLimit k i).now = s.now ∧ (s.mapLimit k i).pending = s.pending ∧ (s.mapLimit k i).ring = s.ring ∧
      (s.mapLimit k i).tb = s.tb ∧ (s.mapLimit k i).channels = s.channels ∧ (s.mapLimit k i).links = s.links ∧
      (s.mapLimit k i).cu = s.cu ∧ (s.mapLimit k i).share = s.share ∧ (s.mapLimit k i).walker = s.walker ∧
      (s.mapLimit k i).resp = s.resp := by
  simp [State.mapLimit]

@[simp] theorem State.limitWalk_keeps (s : State) (e : LastEnd) (k : LimitCause) (i : Nat) :
    (s.limitWalk e k i).now = s.now ∧ (s.limitWalk e k i).pending = s.pending ∧ (s.limitWalk e k i).ring = s.ring ∧
      (s.limitWalk e k i).tb = s.tb ∧ (s.limitWalk e k i).channels = s.channels ∧ (s.limitWalk e k i).links = s.links ∧
      (s.limitWalk e k i).cu = s.cu ∧ (s.limitWalk e k i).share = s.share ∧ (s.limitWalk e k i).resp = s.resp := by
  simp [State.limitWalk]

@[simp] theorem State.haltWalk_keeps (s : State) (i : Nat) :
    (s.haltWalk i).now = s.now ∧ (s.haltWalk i).pending = s.pending ∧ (s.haltWalk i).ring = s.ring ∧
      (s.haltWalk i).tb = s.tb ∧ (s.haltWalk i).channels = s.channels ∧ (s.haltWalk i).links = s.links ∧
      (s.haltWalk i).cu = s.cu ∧ (s.haltWalk i).share = s.share ∧ (s.haltWalk i).resp = s.resp := by
  simp [State.haltWalk]

@[simp] theorem State.cutWalk_keeps (s : State) :
    s.cutWalk.now = s.now ∧ s.cutWalk.pending = s.pending ∧ s.cutWalk.ring = s.ring ∧ s.cutWalk.tb = s.tb ∧
      s.cutWalk.channels = s.channels ∧ s.cutWalk.links = s.links ∧ s.cutWalk.cu = s.cu ∧ s.cutWalk.share = s.share ∧
      s.cutWalk.resp = s.resp ∧ s.cutWalk.svc = s.svc := by
  unfold State.cutWalk
  split <;> simp

@[simp] theorem State.walkTest_keeps (s : State) (i next : Nat) (skipped : Bool) :
    (s.walkTest i next skipped).2.now = s.now ∧ (s.walkTest i next skipped).2.pending = s.pending ∧
      (s.walkTest i next skipped).2.ring = s.ring ∧ (s.walkTest i next skipped).2.tb = s.tb ∧
      (s.walkTest i next skipped).2.channels = s.channels ∧ (s.walkTest i next skipped).2.links = s.links ∧
      (s.walkTest i next skipped).2.cu = s.cu ∧ (s.walkTest i next skipped).2.share = s.share ∧
      (s.walkTest i next skipped).2.resp = s.resp := by
  unfold State.walkTest
  (repeat' split) <;> simp

@[simp] theorem State.countEntry_keeps (s : State) :
    s.countEntry.now = s.now ∧ s.countEntry.pending = s.pending ∧ s.countEntry.ring = s.ring ∧ s.countEntry.tb = s.tb ∧
      s.countEntry.channels = s.channels ∧ s.countEntry.links = s.links ∧ s.countEntry.cu = s.cu ∧
      s.countEntry.share = s.share ∧ s.countEntry.resp = s.resp ∧ s.countEntry.svc = s.svc := by
  simp [State.countEntry]

@[simp] theorem State.doSkip_keeps (s : State) (e : MapEntry) (i : Nat) (v : BitVec 16) :
    (s.doSkip e i v).2.now = s.now ∧ (s.doSkip e i v).2.pending = s.pending ∧ (s.doSkip e i v).2.ring = s.ring ∧
      (s.doSkip e i v).2.tb = s.tb ∧ (s.doSkip e i v).2.channels = s.channels ∧ (s.doSkip e i v).2.links = s.links ∧
      (s.doSkip e i v).2.cu = s.cu ∧ (s.doSkip e i v).2.share = s.share ∧ (s.doSkip e i v).2.resp = s.resp := by
  unfold State.doSkip
  split <;> simp

@[simp] theorem State.shortEntry_keeps (s : State) (i : Nat) :
    (s.shortEntry i).now = s.now ∧ (s.shortEntry i).pending = s.pending ∧ (s.shortEntry i).ring = s.ring ∧
      (s.shortEntry i).tb = s.tb ∧ (s.shortEntry i).channels = s.channels ∧ (s.shortEntry i).links = s.links ∧
      (s.shortEntry i).cu = s.cu ∧ (s.shortEntry i).share = s.share ∧ (s.shortEntry i).resp = s.resp := by
  simp [State.shortEntry]

@[simp] theorem State.lateEntry_keeps (s : State) (i : Nat) :
    (s.lateEntry i).now = s.now ∧ (s.lateEntry i).pending = s.pending ∧ (s.lateEntry i).ring = s.ring ∧
      (s.lateEntry i).tb = s.tb ∧ (s.lateEntry i).channels = s.channels ∧ (s.lateEntry i).links = s.links ∧
      (s.lateEntry i).cu = s.cu ∧ (s.lateEntry i).share = s.share ∧ (s.lateEntry i).resp = s.resp := by
  simp [State.lateEntry]

@[simp] theorem State.judgeEntry_keeps (s : State) (n cycle i : Nat) :
    (s.judgeEntry n cycle i).2.now = s.now ∧ (s.judgeEntry n cycle i).2.pending = s.pending ∧
      (s.judgeEntry n cycle i).2.ring = s.ring ∧ (s.judgeEntry n cycle i).2.tb = s.tb ∧
      (s.judgeEntry n cycle i).2.channels = s.channels ∧ (s.judgeEntry n cycle i).2.links = s.links ∧
      (s.judgeEntry n cycle i).2.cu = s.cu ∧ (s.judgeEntry n cycle i).2.share = s.share ∧
      (s.judgeEntry n cycle i).2.resp = s.resp := by
  unfold State.judgeEntry
  dsimp only
  (repeat' split) <;> simp

@[simp] theorem State.judgeFrom_keeps (n cycle k : Nat) (s : State) :
    (s.judgeFrom n cycle k).now = s.now ∧ (s.judgeFrom n cycle k).pending = s.pending ∧
      (s.judgeFrom n cycle k).ring = s.ring ∧ (s.judgeFrom n cycle k).tb = s.tb ∧
      (s.judgeFrom n cycle k).channels = s.channels ∧ (s.judgeFrom n cycle k).links = s.links ∧
      (s.judgeFrom n cycle k).cu = s.cu ∧ (s.judgeFrom n cycle k).share = s.share ∧ (s.judgeFrom n cycle k).resp = s.resp := by
  induction k generalizing s with
  | zero => simp [State.judgeFrom]
  | succ k ih => unfold State.judgeFrom; dsimp only; split <;> simp [ih]

@[simp] theorem State.beginWalk_keeps (s : State) (n cycle : Nat) :
    (s.beginWalk n cycle).now = s.now ∧ (s.beginWalk n cycle).pending = s.pending ∧ (s.beginWalk n cycle).ring = s.ring ∧
      (s.beginWalk n cycle).tb = s.tb ∧ (s.beginWalk n cycle).channels = s.channels ∧
      (s.beginWalk n cycle).links = s.links ∧ (s.beginWalk n cycle).cu = s.cu ∧ (s.beginWalk n cycle).share = s.share ∧
      (s.beginWalk n cycle).resp = s.resp := by
  unfold State.beginWalk
  split <;> simp

@[simp] theorem State.doEntry_keeps (s : State) (off : Nat) (w : Word) :
    (s.doEntry off w).2.2.now = s.now ∧ (s.doEntry off w).2.2.pending = s.pending ∧ (s.doEntry off w).2.2.ring = s.ring ∧
      (s.doEntry off w).2.2.tb = s.tb ∧ (s.doEntry off w).2.2.channels = s.channels ∧
      (s.doEntry off w).2.2.links = s.links ∧ (s.doEntry off w).2.2.cu = s.cu ∧ (s.doEntry off w).2.2.share = s.share ∧
      (s.doEntry off w).2.2.resp = s.resp := by
  unfold State.doEntry
  dsimp only
  split <;> simp

@[simp] theorem State.commitChan_keeps (s : State) (c : Chan) (k : ChanTakes) :
    (s.commitChan c k).now = s.now ∧ (s.commitChan c k).pending = s.pending ∧ (s.commitChan c k).ring = s.ring ∧
      (s.commitChan c k).tb = s.tb ∧ (s.commitChan c k).links = s.links ∧ (s.commitChan c k).cu = s.cu ∧
      (s.commitChan c k).share = s.share ∧ (s.commitChan c k).walker = s.walker ∧ (s.commitChan c k).resp = s.resp ∧
      (s.commitChan c k).svc = s.svc := by
  simp [State.commitChan]

@[simp] theorem State.commitRequest_keeps (b : TakeBuffer) (s : State) (c : Chan) :
    (State.commitRequest b s c).now = s.now ∧ (State.commitRequest b s c).pending = s.pending ∧
      (State.commitRequest b s c).ring = s.ring ∧ (State.commitRequest b s c).tb = s.tb ∧
      (State.commitRequest b s c).share = s.share ∧ (State.commitRequest b s c).walker = s.walker ∧
      (State.commitRequest b s c).resp = s.resp := by
  unfold State.commitRequest; split <;> simp

@[simp] theorem State.leadersOf_keeps (cs : List Chan) (s : State) :
    (s.leadersOf cs).2.now = s.now ∧ (s.leadersOf cs).2.pending = s.pending ∧ (s.leadersOf cs).2.ring = s.ring ∧
      (s.leadersOf cs).2.tb = s.tb ∧ (s.leadersOf cs).2.channels = s.channels ∧ (s.leadersOf cs).2.links = s.links ∧
      (s.leadersOf cs).2.cu = s.cu ∧ (s.leadersOf cs).2.share = s.share ∧ (s.leadersOf cs).2.walker = s.walker ∧
      (s.leadersOf cs).2.resp = s.resp := by
  induction cs generalizing s with
  | nil => simp [State.leadersOf]
  | cons c cs ih => simp [State.leadersOf, ih]

@[simp] theorem State.commitPairs_keeps (s : State) (b : TakeBuffer) :
    (s.commitPairs b).2.now = s.now ∧ (s.commitPairs b).2.pending = s.pending ∧ (s.commitPairs b).2.ring = s.ring ∧
      (s.commitPairs b).2.tb = s.tb ∧ (s.commitPairs b).2.channels = s.channels ∧ (s.commitPairs b).2.links = s.links ∧
      (s.commitPairs b).2.cu = s.cu ∧ (s.commitPairs b).2.share = s.share ∧ (s.commitPairs b).2.walker = s.walker ∧
      (s.commitPairs b).2.resp = s.resp := by
  unfold State.commitPairs
  split <;> simp

@[simp] theorem State.commit_keeps (s : State) (order : List Chan) :
    (s.commit order).now = s.now ∧ (s.commit order).pending = s.pending ∧ (s.commit order).ring = s.ring ∧
      (s.commit order).tb = s.tb ∧ (s.commit order).resp = s.resp := by
  unfold State.commit
  dsimp only
  split <;> simp

@[simp] theorem State.discard_keeps (s : State) :
    s.discard.now = s.now ∧ s.discard.pending = s.pending ∧ s.discard.ring = s.ring ∧ s.discard.tb = s.tb ∧
      s.discard.channels = s.channels ∧ s.discard.links = s.links ∧ s.discard.cu = s.cu ∧ s.discard.share = s.share ∧
      s.discard.resp = s.resp ∧ s.discard.svc = s.svc := by
  unfold State.discard
  split <;> simp

@[simp] theorem State.readWords_keeps (s0 : State) (tb ix : Nat) (ws : List Nat) (s : State) :
    (s0.readWords tb ix ws s).2.2.now = s.now ∧ (s0.readWords tb ix ws s).2.2.pending = s.pending ∧
      (s0.readWords tb ix ws s).2.2.ring = s.ring ∧ (s0.readWords tb ix ws s).2.2.tb = s.tb ∧
      (s0.readWords tb ix ws s).2.2.channels = s.channels ∧ (s0.readWords tb ix ws s).2.2.links = s.links ∧
      (s0.readWords tb ix ws s).2.2.cu = s.cu ∧ (s0.readWords tb ix ws s).2.2.share = s.share ∧
      (s0.readWords tb ix ws s).2.2.walker = s.walker ∧ (s0.readWords tb ix ws s).2.2.resp = s.resp := by
  induction ws generalizing s with
  | nil => simp [State.readWords]
  | cons w ws ih => unfold State.readWords; dsimp only; (repeat' split) <;> simp [ih]

@[simp] theorem State.answerRead_keeps (s : State) (r : ReqArea) :
    (s.answerRead r).2.now = s.now ∧ (s.answerRead r).2.pending = s.pending ∧ (s.answerRead r).2.ring = s.ring ∧
      (s.answerRead r).2.tb = s.tb ∧ (s.answerRead r).2.channels = s.channels ∧ (s.answerRead r).2.links = s.links ∧
      (s.answerRead r).2.cu = s.cu ∧ (s.answerRead r).2.share = s.share ∧ (s.answerRead r).2.walker = s.walker ∧
      (s.answerRead r).2.resp = s.resp := by
  simp [State.answerRead]

@[simp] theorem State.writeNode_keeps (s : State) (r : ReqArea) :
    (s.writeNode r).2.now = s.now ∧ (s.writeNode r).2.pending = s.pending ∧ (s.writeNode r).2.tb = s.tb ∧
      (s.writeNode r).2.channels = s.channels ∧ (s.writeNode r).2.links = s.links ∧ (s.writeNode r).2.cu = s.cu ∧
      (s.writeNode r).2.share = s.share ∧ (s.writeNode r).2.walker = s.walker ∧ (s.writeNode r).2.resp = s.resp ∧
      (s.writeNode r).2.svc = s.svc := by
  unfold State.writeNode State.writePlain; dsimp only; split <;> simp

@[simp] theorem State.writeShare_keeps (s : State) (r : ReqArea) :
    (s.writeShare r).2.now = s.now ∧ (s.writeShare r).2.pending = s.pending ∧ (s.writeShare r).2.ring = s.ring ∧
      (s.writeShare r).2.tb = s.tb ∧ (s.writeShare r).2.channels = s.channels ∧ (s.writeShare r).2.links = s.links ∧
      (s.writeShare r).2.cu = s.cu ∧ (s.writeShare r).2.walker = s.walker ∧ (s.writeShare r).2.resp = s.resp ∧
      (s.writeShare r).2.svc = s.svc := by
  unfold State.writeShare State.writePlain; dsimp only; split <;> simp

@[simp] theorem State.storeTimebase_keeps (s : State) (r : ReqArea) :
    (s.storeTimebase r).2.now = s.now ∧ (s.storeTimebase r).2.pending = s.pending ∧ (s.storeTimebase r).2.ring = s.ring ∧
      (s.storeTimebase r).2.channels = s.channels ∧ (s.storeTimebase r).2.links = s.links ∧
      (s.storeTimebase r).2.cu = s.cu ∧ (s.storeTimebase r).2.share = s.share ∧ (s.storeTimebase r).2.walker = s.walker ∧
      (s.storeTimebase r).2.resp = s.resp ∧ (s.storeTimebase r).2.svc = s.svc := by
  unfold State.storeTimebase State.writePlain; dsimp only; split <;> simp

@[simp] theorem State.writeTimebase_keeps (s : State) (r : ReqArea) :
    (s.writeTimebase r).2.now = s.now ∧ (s.writeTimebase r).2.pending = s.pending ∧ (s.writeTimebase r).2.ring = s.ring ∧
      (s.writeTimebase r).2.channels = s.channels ∧ (s.writeTimebase r).2.links = s.links ∧
      (s.writeTimebase r).2.cu = s.cu ∧ (s.writeTimebase r).2.share = s.share ∧ (s.writeTimebase r).2.walker = s.walker ∧
      (s.writeTimebase r).2.resp = s.resp := by
  unfold State.writeTimebase
  dsimp only
  (repeat' split) <;> simp

@[simp] theorem State.writeIntegrity_keeps (s : State) (r : ReqArea) :
    (s.writeIntegrity r).2.now = s.now ∧ (s.writeIntegrity r).2.pending = s.pending ∧
      (s.writeIntegrity r).2.ring = s.ring ∧ (s.writeIntegrity r).2.tb = s.tb ∧
      (s.writeIntegrity r).2.channels = s.channels ∧ (s.writeIntegrity r).2.links = s.links ∧
      (s.writeIntegrity r).2.cu = s.cu ∧ (s.writeIntegrity r).2.share = s.share ∧
      (s.writeIntegrity r).2.walker = s.walker ∧ (s.writeIntegrity r).2.resp = s.resp := by
  unfold State.writeIntegrity State.writePlain; dsimp only; split <;> simp

@[simp] theorem State.writeTrace_keeps (s : State) (r : ReqArea) :
    (s.writeTrace r).2.now = s.now ∧ (s.writeTrace r).2.pending = s.pending ∧ (s.writeTrace r).2.ring = s.ring ∧
      (s.writeTrace r).2.tb = s.tb ∧ (s.writeTrace r).2.channels = s.channels ∧ (s.writeTrace r).2.links = s.links ∧
      (s.writeTrace r).2.cu = s.cu ∧ (s.writeTrace r).2.share = s.share ∧ (s.writeTrace r).2.walker = s.walker ∧
      (s.writeTrace r).2.resp = s.resp := by
  unfold State.writeTrace State.writePlain; dsimp only; split <;> simp

@[simp] theorem State.writeMapControl_keeps (s : State) (r : ReqArea) :
    (s.writeMapControl r).2.now = s.now ∧ (s.writeMapControl r).2.pending = s.pending ∧
      (s.writeMapControl r).2.ring = s.ring ∧ (s.writeMapControl r).2.tb = s.tb ∧
      (s.writeMapControl r).2.channels = s.channels ∧ (s.writeMapControl r).2.links = s.links ∧
      (s.writeMapControl r).2.cu = s.cu ∧ (s.writeMapControl r).2.share = s.share ∧ (s.writeMapControl r).2.resp = s.resp ∧
      (s.writeMapControl r).2.svc = s.svc := by
  unfold State.writeMapControl State.writePlain; dsimp only; split <;> simp

@[simp] theorem State.writeAlert_keeps (s : State) (r : ReqArea) :
    (s.writeAlert r).2.now = s.now ∧ (s.writeAlert r).2.pending = s.pending ∧ (s.writeAlert r).2.ring = s.ring ∧
      (s.writeAlert r).2.tb = s.tb ∧ (s.writeAlert r).2.channels = s.channels ∧ (s.writeAlert r).2.links = s.links ∧
      (s.writeAlert r).2.cu = s.cu ∧ (s.writeAlert r).2.share = s.share ∧ (s.writeAlert r).2.walker = s.walker ∧
      (s.writeAlert r).2.resp = s.resp := by
  unfold State.writeAlert
  dsimp only
  split <;> simp

@[simp] theorem State.writeMap_keeps (s : State) (r : ReqArea) :
    (s.writeMap r).2.now = s.now ∧ (s.writeMap r).2.pending = s.pending ∧ (s.writeMap r).2.ring = s.ring ∧
      (s.writeMap r).2.tb = s.tb ∧ (s.writeMap r).2.channels = s.channels ∧ (s.writeMap r).2.links = s.links ∧
      (s.writeMap r).2.cu = s.cu ∧ (s.writeMap r).2.share = s.share ∧ (s.writeMap r).2.resp = s.resp := by
  unfold State.writeMap
  dsimp only
  (repeat' split) <;> simp

@[simp] theorem State.storeChannel_keeps (s : State) (r : ReqArea) :
    (s.storeChannel r).2.now = s.now ∧ (s.storeChannel r).2.pending = s.pending ∧ (s.storeChannel r).2.ring = s.ring ∧
      (s.storeChannel r).2.tb = s.tb ∧ (s.storeChannel r).2.links = s.links ∧ (s.storeChannel r).2.cu = s.cu ∧
      (s.storeChannel r).2.share = s.share ∧ (s.storeChannel r).2.walker = s.walker ∧ (s.storeChannel r).2.resp = s.resp := by
  unfold State.storeChannel
  dsimp only
  split <;> simp

@[simp] theorem State.writeChannel_keeps (s : State) (r : ReqArea) :
    (s.writeChannel r).2.now = s.now ∧ (s.writeChannel r).2.pending = s.pending ∧ (s.writeChannel r).2.ring = s.ring ∧
      (s.writeChannel r).2.tb = s.tb ∧ (s.writeChannel r).2.links = s.links ∧ (s.writeChannel r).2.cu = s.cu ∧
      (s.writeChannel r).2.share = s.share ∧ (s.writeChannel r).2.walker = s.walker ∧ (s.writeChannel r).2.resp = s.resp := by
  unfold State.writeChannel
  dsimp only
  (repeat' split) <;> simp

@[simp] theorem State.answerWrite_keeps (s : State) (r : ReqArea) :
    (s.answerWrite r).2.now = s.now ∧ (s.answerWrite r).2.pending = s.pending ∧ (s.answerWrite r).2.links = s.links ∧
      (s.answerWrite r).2.cu = s.cu ∧ (s.answerWrite r).2.resp = s.resp := by
  unfold State.answerWrite
  split <;> simp

@[simp] theorem State.answerStage_keeps (s : State) (r : ReqArea) :
    (s.answerStage r).2.now = s.now ∧ (s.answerStage r).2.pending = s.pending ∧ (s.answerStage r).2.ring = s.ring ∧
      (s.answerStage r).2.tb = s.tb ∧ (s.answerStage r).2.channels = s.channels ∧ (s.answerStage r).2.cu = s.cu ∧
      (s.answerStage r).2.share = s.share ∧ (s.answerStage r).2.walker = s.walker ∧ (s.answerStage r).2.svc = s.svc := by
  unfold State.answerStage
  dsimp only
  (repeat' split) <;> simp

@[simp] theorem State.answerAccess_keeps (s : State) (r : ReqArea) :
    (s.answerAccess r).2.now = s.now ∧ (s.answerAccess r).2.pending = s.pending ∧ (s.answerAccess r).2.cu = s.cu := by
  unfold State.answerAccess
  (repeat' split) <;> simp

@[simp] theorem State.clearEvents_keeps (s : State) :
    s.clearEvents.now = s.now ∧ s.clearEvents.pending = s.pending ∧ s.clearEvents.ring = s.ring ∧ s.clearEvents.tb = s.tb ∧
      s.clearEvents.channels = s.channels ∧ s.clearEvents.links = s.links ∧ s.clearEvents.cu = s.cu ∧
      s.clearEvents.share = s.share ∧ s.clearEvents.walker = s.walker ∧ s.clearEvents.resp = s.resp := by
  simp [State.clearEvents]

@[simp] theorem State.answerStageReset_keeps (s : State) (r : ReqArea) :
    (s.answerStageReset r).2.now = s.now ∧ (s.answerStageReset r).2.pending = s.pending ∧
      (s.answerStageReset r).2.ring = s.ring ∧ (s.answerStageReset r).2.tb = s.tb ∧
      (s.answerStageReset r).2.channels = s.channels ∧ (s.answerStageReset r).2.cu = s.cu ∧
      (s.answerStageReset r).2.share = s.share ∧ (s.answerStageReset r).2.walker = s.walker ∧
      (s.answerStageReset r).2.resp = s.resp := by
  unfold State.answerStageReset
  dsimp only
  split <;> simp

@[simp] theorem State.answerRequest_keeps (s : State) (r : ReqArea) :
    (s.answerRequest r).2.now = s.now ∧ (s.answerRequest r).2.pending = s.pending ∧ (s.answerRequest r).2.ring = s.ring ∧
      (s.answerRequest r).2.tb = s.tb ∧ (s.answerRequest r).2.share = s.share ∧ (s.answerRequest r).2.walker = s.walker ∧
      (s.answerRequest r).2.resp = s.resp := by
  simp [State.answerRequest]

@[simp] theorem State.answerTraceArm_keeps (s : State) (r : ReqArea) :
    (s.answerTraceArm r).2.now = s.now ∧ (s.answerTraceArm r).2.pending = s.pending ∧
      (s.answerTraceArm r).2.ring = s.ring ∧ (s.answerTraceArm r).2.tb = s.tb ∧
      (s.answerTraceArm r).2.channels = s.channels ∧ (s.answerTraceArm r).2.links = s.links ∧
      (s.answerTraceArm r).2.cu = s.cu ∧ (s.answerTraceArm r).2.share = s.share ∧
      (s.answerTraceArm r).2.walker = s.walker ∧ (s.answerTraceArm r).2.resp = s.resp := by
  unfold State.answerTraceArm
  split <;> simp

@[simp] theorem State.answerTraceTrigger_keeps (s : State) (r : ReqArea) :
    (s.answerTraceTrigger r).2.now = s.now ∧ (s.answerTraceTrigger r).2.pending = s.pending ∧
      (s.answerTraceTrigger r).2.ring = s.ring ∧ (s.answerTraceTrigger r).2.tb = s.tb ∧
      (s.answerTraceTrigger r).2.channels = s.channels ∧ (s.answerTraceTrigger r).2.links = s.links ∧
      (s.answerTraceTrigger r).2.cu = s.cu ∧ (s.answerTraceTrigger r).2.share = s.share ∧
      (s.answerTraceTrigger r).2.walker = s.walker ∧ (s.answerTraceTrigger r).2.resp = s.resp := by
  unfold State.answerTraceTrigger
  split <;> simp

@[simp] theorem State.traceStop_keeps (s : State) :
    s.traceStop.now = s.now ∧ s.traceStop.pending = s.pending ∧ s.traceStop.ring = s.ring ∧ s.traceStop.tb = s.tb ∧
      s.traceStop.channels = s.channels ∧ s.traceStop.links = s.links ∧ s.traceStop.cu = s.cu ∧
      s.traceStop.share = s.share ∧ s.traceStop.walker = s.walker ∧ s.traceStop.resp = s.resp := by
  simp [State.traceStop]

@[simp] theorem State.integrityClear_keeps (s : State) :
    s.integrityClear.now = s.now ∧ s.integrityClear.pending = s.pending ∧ s.integrityClear.ring = s.ring ∧
      s.integrityClear.tb = s.tb ∧ s.integrityClear.channels = s.channels ∧ s.integrityClear.links = s.links ∧
      s.integrityClear.cu = s.cu ∧ s.integrityClear.share = s.share ∧ s.integrityClear.walker = s.walker ∧
      s.integrityClear.resp = s.resp := by
  simp [State.integrityClear]

@[simp] theorem State.answerCommand_keeps (s : State) (r : ReqArea) :
    (s.answerCommand r).2.now = s.now ∧ (s.answerCommand r).2.pending = s.pending := by
  unfold State.answerCommand
  (repeat' split) <;> simp

@[simp] theorem State.answerVector_keeps (s : State) (r : ReqArea) :
    (s.answerVector r).2.now = s.now ∧ (s.answerVector r).2.pending = s.pending ∧ (s.answerVector r).2.ring = s.ring ∧
      (s.answerVector r).2.tb = s.tb ∧ (s.answerVector r).2.channels = s.channels ∧ (s.answerVector r).2.links = s.links ∧
      (s.answerVector r).2.cu = s.cu ∧ (s.answerVector r).2.share = s.share ∧ (s.answerVector r).2.walker = s.walker ∧
      (s.answerVector r).2.resp = s.resp := by
  unfold State.answerVector
  split <;> simp

@[simp] theorem State.answerFetch_keeps (s : State) (r : ReqArea) :
    (s.answerFetch r).2.now = s.now ∧ (s.answerFetch r).2.pending = s.pending ∧ (s.answerFetch r).2.ring = s.ring ∧
      (s.answerFetch r).2.tb = s.tb ∧ (s.answerFetch r).2.channels = s.channels ∧ (s.answerFetch r).2.links = s.links ∧
      (s.answerFetch r).2.cu = s.cu ∧ (s.answerFetch r).2.share = s.share ∧ (s.answerFetch r).2.walker = s.walker ∧
      (s.answerFetch r).2.resp = s.resp := by
  unfold State.answerFetch
  (repeat' split) <;> simp

@[simp] theorem State.answer_keeps (s : State) (r : ReqArea) :
    (s.answer r).2.now = s.now ∧ (s.answer r).2.pending = s.pending := by
  unfold State.answer
  (repeat' split) <;> simp

@[simp] theorem State.take_keeps (s : State) (r : ReqArea) :
    (s.take r).now = s.now ∧ (s.take r).pending = s.pending := by
  unfold State.take
  split <;> simp

@[simp] theorem State.request_keeps (s : State) (r : ReqArea) :
    (s.request r).now = s.now ∧ (s.request r).pending = s.pending := by
  unfold State.request
  (repeat' split) <;> simp

@[simp] theorem State.endFrame_keeps (s : State) (rest : Ring → Ring) :
    (s.endFrame rest).now = s.now ∧ (s.endFrame rest).pending = s.pending := by
  unfold State.endFrame
  dsimp only
  split <;> simp

@[simp] theorem State.closeFrame_keeps (s : State) (f : Frame) (sent : List Word) :
    (s.closeFrame f sent).now = s.now ∧ (s.closeFrame f sent).pending = s.pending := by
  simp [State.closeFrame]

@[simp] theorem State.severFrame_keeps (s : State) (f : Frame) (words : List Word) :
    (s.severFrame f words).now = s.now ∧ (s.severFrame f words).pending = s.pending := by
  simp [State.severFrame]

@[simp] theorem State.damaged_keeps (s : State) (f : Frame) :
    (s.damaged f).now = s.now ∧ (s.damaged f).pending = s.pending ∧ (s.damaged f).tb = s.tb ∧
      (s.damaged f).channels = s.channels ∧ (s.damaged f).links = s.links ∧ (s.damaged f).cu = s.cu ∧
      (s.damaged f).share = s.share ∧ (s.damaged f).resp = s.resp := by
  simp [State.damaged]

@[simp] theorem State.cutFrame_keeps (s : State) :
    s.cutFrame.now = s.now ∧ s.cutFrame.pending = s.pending := by
  unfold State.cutFrame
  (repeat' split) <;> simp

@[simp] theorem State.loseFrame_keeps (s : State) :
    s.loseFrame.now = s.now ∧ s.loseFrame.pending = s.pending ∧ s.loseFrame.tb = s.tb ∧ s.loseFrame.channels = s.channels ∧
      s.loseFrame.links = s.links ∧ s.loseFrame.cu = s.cu ∧ s.loseFrame.share = s.share ∧ s.loseFrame.walker = s.walker ∧
      s.loseFrame.resp = s.resp ∧ s.loseFrame.svc = s.svc := by
  unfold State.loseFrame
  dsimp only
  (repeat' split) <;> simp

@[simp] theorem State.portLost_keeps (s : State) (p : Port) :
    (s.portLost p).now = s.now ∧ (s.portLost p).pending = s.pending := by
  cases p <;> simp [State.portLost]

@[simp] theorem State.setPort_keeps (s : State) (p : Port) (x : RingPort) :
    (s.setPort p x).now = s.now ∧ (s.setPort p x).pending = s.pending := by
  unfold State.setPort
  dsimp only
  (repeat' split) <;> simp

@[simp] theorem State.see_keeps (s : State) (p : Port) (sym : LineSymbol) :
    (s.see p sym).now = s.now ∧ (s.see p sym).pending = s.pending := by
  unfold State.see
  split <;> simp

@[simp] theorem State.startReturn_keeps (s : State) :
    s.startReturn.now = s.now ∧ s.startReturn.pending = s.pending ∧ s.startReturn.tb = s.tb ∧
      s.startReturn.channels = s.channels ∧ s.startReturn.links = s.links ∧ s.startReturn.cu = s.cu ∧
      s.startReturn.share = s.share ∧ s.startReturn.walker = s.walker ∧ s.startReturn.resp = s.resp ∧
      s.startReturn.svc = s.svc := by
  simp [State.startReturn]

@[simp] theorem State.startFrame_keeps (s : State) :
    s.startFrame.now = s.now ∧ s.startFrame.pending = s.pending := by
  unfold State.startFrame
  dsimp only
  (repeat' split) <;> simp

@[simp] theorem State.classLine_keeps (s : State) (i : Fin 16) :
    (s.classLine i).2.now = s.now ∧ (s.classLine i).2.pending = s.pending ∧ (s.classLine i).2.ring = s.ring ∧
      (s.classLine i).2.tb = s.tb ∧ (s.classLine i).2.channels = s.channels ∧ (s.classLine i).2.links = s.links ∧
      (s.classLine i).2.cu = s.cu ∧ (s.classLine i).2.share = s.share ∧ (s.classLine i).2.walker = s.walker ∧
      (s.classLine i).2.resp = s.resp := by
  simp [State.classLine]

@[simp] theorem State.classLines_keeps (is : List (Fin 16)) (s : State) :
    (s.classLines is).2.now = s.now ∧ (s.classLines is).2.pending = s.pending ∧ (s.classLines is).2.ring = s.ring ∧
      (s.classLines is).2.tb = s.tb ∧ (s.classLines is).2.channels = s.channels ∧ (s.classLines is).2.links = s.links ∧
      (s.classLines is).2.cu = s.cu ∧ (s.classLines is).2.share = s.share ∧ (s.classLines is).2.walker = s.walker ∧
      (s.classLines is).2.resp = s.resp := by
  induction is generalizing s with
  | nil => simp [State.classLines]
  | cons i is ih => simp [State.classLines, ih]

@[simp] theorem State.alertLines_keeps (s : State) :
    (s.alertLines).2.now = s.now ∧ (s.alertLines).2.pending = s.pending ∧ (s.alertLines).2.ring = s.ring ∧
      (s.alertLines).2.tb = s.tb ∧ (s.alertLines).2.channels = s.channels ∧ (s.alertLines).2.links = s.links ∧
      (s.alertLines).2.cu = s.cu ∧ (s.alertLines).2.share = s.share ∧ (s.alertLines).2.walker = s.walker ∧
      (s.alertLines).2.resp = s.resp := by
  simp [State.alertLines]

@[simp] theorem State.cycleHeader_keeps (s : State) (f : Frame) (h : Vector Word 13) :
    (s.cycleHeader f h).now = s.now ∧ (s.cycleHeader f h).pending = s.pending := by
  unfold State.cycleHeader
  dsimp only
  (repeat' split) <;> simp

@[simp] theorem State.resetHeader_keeps (s : State) (f : Frame) (h : Vector Word 13) :
    (s.resetHeader f h).now = s.now ∧ (s.resetHeader f h).pending = s.pending := by
  simp [State.resetHeader]

@[simp] theorem State.undefinedHeader_keeps (s : State) (f : Frame) (h : Vector Word 13) :
    (s.undefinedHeader f h).now = s.now ∧ (s.undefinedHeader f h).pending = s.pending ∧ (s.undefinedHeader f h).tb = s.tb ∧
      (s.undefinedHeader f h).channels = s.channels ∧ (s.undefinedHeader f h).links = s.links ∧
      (s.undefinedHeader f h).cu = s.cu ∧ (s.undefinedHeader f h).share = s.share ∧
      (s.undefinedHeader f h).walker = s.walker ∧ (s.undefinedHeader f h).resp = s.resp ∧
      (s.undefinedHeader f h).svc = s.svc := by
  simp [State.undefinedHeader]

@[simp] theorem State.badHeader_keeps (s : State) (f : Frame) (h : Vector Word 13) :
    (s.badHeader f h).now = s.now ∧ (s.badHeader f h).pending = s.pending ∧ (s.badHeader f h).tb = s.tb ∧
      (s.badHeader f h).channels = s.channels ∧ (s.badHeader f h).links = s.links ∧ (s.badHeader f h).cu = s.cu ∧
      (s.badHeader f h).share = s.share ∧ (s.badHeader f h).walker = s.walker ∧ (s.badHeader f h).resp = s.resp ∧
      (s.badHeader f h).svc = s.svc := by
  simp [State.badHeader]

@[simp] theorem State.takeHeader_keeps (s : State) (f : Frame) (h : Vector Word 13) :
    (s.takeHeader f h).now = s.now ∧ (s.takeHeader f h).pending = s.pending := by
  unfold State.takeHeader
  (repeat' split) <;> simp

@[simp] theorem State.hear_keeps (s : State) (t : Nat) (p : Port) :
    (s.hear t p).pending = s.pending := by
  simp [State.hear]

@[simp] theorem State.passWalker_keeps (n cycle off k : Nat) (w : Word) (s : State) :
    (s.passWalker n cycle off k w).2.now = s.now ∧ (s.passWalker n cycle off k w).2.pending = s.pending ∧
      (s.passWalker n cycle off k w).2.ring = s.ring ∧ (s.passWalker n cycle off k w).2.tb = s.tb ∧
      (s.passWalker n cycle off k w).2.channels = s.channels ∧ (s.passWalker n cycle off k w).2.links = s.links ∧
      (s.passWalker n cycle off k w).2.cu = s.cu ∧ (s.passWalker n cycle off k w).2.share = s.share ∧
      (s.passWalker n cycle off k w).2.resp = s.resp := by
  induction k generalizing s w with
  | zero => simp [State.passWalker]
  | succ k ih => unfold State.passWalker; dsimp only; (repeat' split) <;> simp [ih]

@[simp] theorem State.openArea_keeps (s : State) (f : Frame) (q0 : Word) :
    (s.openArea f q0).2.now = s.now ∧ (s.openArea f q0).2.pending = s.pending ∧ (s.openArea f q0).2.ring = s.ring ∧
      (s.openArea f q0).2.tb = s.tb ∧ (s.openArea f q0).2.channels = s.channels ∧ (s.openArea f q0).2.links = s.links ∧
      (s.openArea f q0).2.cu = s.cu ∧ (s.openArea f q0).2.share = s.share ∧ (s.openArea f q0).2.walker = s.walker ∧
      (s.openArea f q0).2.svc = s.svc := by
  unfold State.openArea
  (repeat' split) <;> simp

@[simp] theorem State.passHeaderWord_keeps (s : State) (f : Frame) (w : Word) :
    (s.passHeaderWord f w).now = s.now ∧ (s.passHeaderWord f w).pending = s.pending := by
  unfold State.passHeaderWord
  dsimp only
  split <;> simp

@[simp] theorem State.passWord_keeps (s : State) (w : Word) :
    (s.passWord w).now = s.now ∧ (s.passWord w).pending = s.pending := by
  unfold State.passWord
  (repeat' split) <;> simp

@[simp] theorem State.finishFrame_keeps (s : State) (order : List Chan) :
    (s.finishFrame order).now = s.now ∧ (s.finishFrame order).pending = s.pending := by
  unfold State.finishFrame
  (repeat' split) <;> simp

@[simp] theorem State.frameSymbol_keeps (s : State) (p : Port) (sym : LineSymbol) (order : List Chan) :
    (s.frameSymbol p sym order).now = s.now ∧ (s.frameSymbol p sym order).pending = s.pending := by
  unfold State.frameSymbol
  (repeat' split) <;> simp

@[simp] theorem State.frameWords_keeps (s : State) (p : Port) (ws : List Word) :
    (s.frameWords p ws).now = s.now ∧ (s.frameWords p ws).pending = s.pending := by
  simp [State.frameWords]

end Sys2Proof.Machine
end

