-- ==== Sys2Proof/Laws/Memory.lean ====
section
/-! SUPPORT. The flaws of the protected memories: their canonical form, what looking up, healing and spoiling do, and that every
operation on the services keeps the form. -/

namespace Sys2Proof.Machine

open Sys2Proof

/-! ### The form itself -/

@[simp] theorem risingFrom_cons (k : Nat) (p : Nat × Flaw) (m : List (Nat × Flaw)) :
    risingFrom k (p :: m) = true ↔ k < p.1 ∧ risingFrom p.1 m = true := by simp [risingFrom]

@[simp] theorem wf_nil : Memory.wf [] = true := rfl

@[simp] theorem wf_cons (p : Nat × Flaw) (m : List (Nat × Flaw)) : Memory.wf (p :: m) = true ↔ risingFrom p.1 m = true := Iff.rfl

theorem risingFrom_mono {a b : Nat} (h : a ≤ b) : ∀ {m : List (Nat × Flaw)}, risingFrom b m = true → risingFrom a m = true
  | [], _ => rfl
  | p :: m, hm => by rw [risingFrom_cons] at hm ⊢; exact ⟨Nat.lt_of_le_of_lt h hm.1, hm.2⟩

theorem wf_of_rising {k : Nat} {m : List (Nat × Flaw)} (h : risingFrom k m = true) : Memory.wf m = true := by
  cases m with
  | nil => rfl
  | cons p m => exact ((risingFrom_cons k p m).1 h).2

/-! ### Healing and spoiling -/

theorem rising_erase (k a : Nat) : ∀ {m : List (Nat × Flaw)}, risingFrom a m = true → risingFrom a (flawErase k m) = true
  | [], _ => rfl
  | p :: m, h => by
    rw [risingFrom_cons] at h
    unfold flawErase
    split
    · exact risingFrom_mono (Nat.le_of_lt h.1) h.2
    · rw [risingFrom_cons]; exact ⟨h.1, rising_erase k p.1 h.2⟩

/-- Healing a word keeps the form. -/
theorem wf_erase (k : Nat) {m : List (Nat × Flaw)} (h : Memory.wf m = true) : Memory.wf (flawErase k m) = true := by
  cases m with
  | nil => rfl
  | cons p m =>
    rw [wf_cons] at h
    unfold flawErase
    split
    · exact wf_of_rising h
    · exact rising_erase k p.1 h

theorem rising_insert (k a : Nat) (f : Flaw) (hk : a < k) :
    ∀ {m : List (Nat × Flaw)}, risingFrom a m = true → risingFrom a (flawInsert k f m) = true
  | [], _ => by simp [flawInsert, hk, risingFrom]
  | p :: m, h => by
    rw [risingFrom_cons] at h
    unfold flawInsert
    split
    · simp [*]
    · split
      · subst_vars; simp [*]
      · rw [risingFrom_cons]; exact ⟨h.1, rising_insert k p.1 f (by omega) h.2⟩

/-- Spoiling a word keeps the form. -/
theorem wf_insert (k : Nat) (f : Flaw) {m : List (Nat × Flaw)} (h : Memory.wf m = true) : Memory.wf (flawInsert k f m) = true := by
  cases m with
  | nil => rfl
  | cons p m =>
    rw [wf_cons] at h
    unfold flawInsert
    split
    · simp [*]
    · split
      · subst_vars; simp [*]
      · rw [wf_cons]; exact rising_insert k p.1 f (by omega) h

theorem lookup_rising {k a : Nat} (hk : k ≤ a) : ∀ {m : List (Nat × Flaw)}, risingFrom a m = true → flawLookup k m = none
  | [], _ => rfl
  | p :: m, h => by
    rw [risingFrom_cons] at h
    have : ¬ p.1 = k := by omega
    simp only [flawLookup, this, if_false]
    exact lookup_rising (by omega) h.2

/-- A healed word is good. -/
theorem lookup_erase (k : Nat) : ∀ {m : List (Nat × Flaw)}, Memory.wf m = true → flawLookup k (flawErase k m) = none
  | [], _ => rfl
  | p :: m, h => by
    rw [wf_cons] at h
    unfold flawErase
    split
    · rename_i e; exact lookup_rising (by omega) h
    · rename_i e; simp only [flawLookup, e, if_false]; exact lookup_erase k (wf_of_rising h)

/-- Healing one word leaves every other as it was. -/
theorem lookup_erase_ne {j k : Nat} (hjk : j ≠ k) : ∀ m : List (Nat × Flaw), flawLookup j (flawErase k m) = flawLookup j m
  | [] => rfl
  | p :: m => by
    unfold flawErase
    split
    · rename_i e; have : ¬ p.1 = j := by omega
      simp [flawLookup, this]
    · simp only [flawLookup]; split
      · rfl
      · exact lookup_erase_ne hjk m

/-- A spoiled word shows its flaw. -/
theorem lookup_insert (k : Nat) (f : Flaw) : ∀ m : List (Nat × Flaw), flawLookup k (flawInsert k f m) = some f
  | [] => by simp [flawInsert, flawLookup]
  | p :: m => by
    unfold flawInsert
    split
    · simp [flawLookup]
    · split
      · simp [flawLookup]
      · simp only [flawLookup, *, if_false]; exact lookup_insert k f m

/-- Spoiling one word leaves every other as it was. -/
theorem lookup_insert_ne {j k : Nat} (hjk : j ≠ k) (f : Flaw) :
    ∀ m : List (Nat × Flaw), flawLookup j (flawInsert k f m) = flawLookup j m
  | [] => by simp [flawInsert, flawLookup, Ne.symm hjk]
  | p :: m => by
    unfold flawInsert
    split
    · simp [flawLookup, Ne.symm hjk]
    · split
      · rename_i e; have : ¬ p.1 = j := by omega
        simp [flawLookup, Ne.symm hjk, this]
      · simp only [flawLookup]; split
        · rfl
        · exact lookup_insert_ne hjk f m

theorem wf_healAll (ls : List Loc) : ∀ {m : List (Nat × Flaw)}, Memory.wf m = true → Memory.wf (healAll m ls) = true := by
  induction ls with
  | nil => intro m h; exact h
  | cons l ls ih => intro m h; exact ih (wf_erase l.key h)

/-! ### The operations on the services -/

@[simp] theorem Services.enter_integ (v : Services) (c : EventClass) (d : Detail) (b : Bool) : (v.enter c d b).integ = v.integ := rfl

@[simp] theorem Services.noteCorrected_flaws (v : Services) (l : Loc) :
    (v.noteCorrected l).integ.flaws = flawErase l.key v.integ.flaws := rfl

@[simp] theorem Services.noteUncorrectable_flaws (v : Services) (l : Loc) :
    (v.noteUncorrectable l).integ.flaws = v.integ.flaws := rfl

theorem Services.wf_raiseN (n : Nat) :
    ∀ (v : Services) (c : EventClass) (d : Detail), Memory.wf v.integ.flaws = true →
      Memory.wf (v.raiseN n c d).integ.flaws = true := by
  induction n with
  | zero => intro v c d h; exact h
  | succ n ih =>
    intro v c d h
    unfold Services.raiseN
    split
    · exact h
    · exact ih _ _ _ (wf_erase _ h)
    · dsimp only
      split
      · exact h
      · exact ih _ _ _ h

/-- A raise keeps the form. -/
theorem Services.wf_raise (v : Services) (c : EventClass) (d : Detail) (h : Memory.wf v.integ.flaws = true) :
    Memory.wf (v.raise c d).integ.flaws = true := Services.wf_raiseN 6 v c d h

/-- A read keeps the form. -/
theorem Services.wf_check (v : Services) (l : Loc) (h : Memory.wf v.integ.flaws = true) :
    Memory.wf (v.check l).2.integ.flaws = true := by
  unfold Services.check
  split
  · exact h
  · exact Services.wf_raise _ _ _ (wf_erase _ h)
  · dsimp only
    split
    · exact h
    · exact Services.wf_raise _ _ _ h

/-- A read of several words keeps the form. -/
theorem Services.wf_checkAll (ls : List Loc) :
    ∀ v : Services, Memory.wf v.integ.flaws = true → Memory.wf (v.checkAll ls).2.integ.flaws = true := by
  induction ls with
  | nil => intro v h; exact h
  | cons l ls ih => intro v h; exact ih _ (Services.wf_check v l h)

/-- A store keeps the form. -/
theorem Services.wf_store (v : Services) (ls : List Loc) (h : Memory.wf v.integ.flaws = true) :
    Memory.wf (v.store ls).integ.flaws = true := by
  unfold Services.store
  dsimp only
  split
  · split
    · exact wf_insert _ _ (wf_healAll _ h)
    · exact wf_healAll _ h
  · exact wf_healAll _ h

/-! ### The operations on the whole state -/

theorem State.wf_raise (s : State) (c : EventClass) (d : Detail) (h : FlawsCanonical s) : FlawsCanonical (s.raise c d) :=
  Services.wf_raise _ _ _ h

theorem State.wf_check (s : State) (l : Loc) (h : FlawsCanonical s) : FlawsCanonical (s.check l).2 := Services.wf_check _ _ h

theorem State.wf_checkAll (s : State) (ls : List Loc) (h : FlawsCanonical s) : FlawsCanonical (s.checkAll ls).2 :=
  Services.wf_checkAll _ _ h

theorem State.wf_checkEach (ls : List Loc) : ∀ s : State, FlawsCanonical s → FlawsCanonical (s.checkEach ls).2 := by
  induction ls with
  | nil => intro s h; exact h
  | cons l ls ih => intro s h; exact ih _ (State.wf_check s l h)

theorem State.wf_storeRecord (s : State) (c : Chan) (ws : List Nat) (f : Record → Record) (h : FlawsCanonical s) :
    FlawsCanonical (s.storeRecord c ws f) := Services.wf_store _ _ h

theorem State.wf_storeStatus (s : State) (c : Chan) (ws : List Nat) (f : Status → Status) (h : FlawsCanonical s) :
    FlawsCanonical (s.storeStatus c ws f) := Services.wf_store _ _ h

/-- The memories after power-on have the form. -/
theorem reset_wf : Memory.wf State.reset.svc.integ.flaws = true := rfl

end Sys2Proof.Machine
end

