-- ==== Sys2Proof/Laws/Services.lean ====
section
/-! SUPPORT. What raising an event, reading a protected word and storing protected words can do, each said once, and what they are
when no word is bad. -/

namespace Sys2Proof.Machine

open Sys2Proof

/-! ### Reads (R165) -/

/-- A read of a good word leaves everything as it was. -/
theorem Services.check_good (v : Services) (l : Loc) (h : v.flawAt l = none) : v.check l = (true, v) := by
  simp [Services.check, h]

/-- A read does one of four things. -/
theorem Services.check_cases (v : Services) (l : Loc) :
    (v.flawAt l = none ∧ v.check l = (true, v)) ∨
    (v.flawAt l = some .single ∧ v.check l = (true, (v.noteCorrected l).raise .integrityCorrected l.detail)) ∨
    (v.flawAt l = some .double ∧ l ≠ enableLoc .integrityFatal ∧
      v.check l = (false, (v.noteUncorrectable l).raise .integrityFatal l.detail)) ∨
    (v.flawAt l = some .double ∧ l = enableLoc .integrityFatal ∧
      v.check l = (false, (v.noteUncorrectable l).enter .integrityFatal l.detail true)) := by
  unfold Services.check
  by_cases hl : l = enableLoc .integrityFatal <;> cases h : v.flawAt l with
  | none => simp
  | some f => cases f <;> simp [hl]

/-- With no bad word every read finds a value and leaves everything as it was. -/
theorem Services.check_of_no_flaw (v : Services) (l : Loc) (h : v.integ.flaws = []) : v.check l = (true, v) :=
  Services.check_good v l (by simp [Services.flawAt, h, flawLookup])

theorem Services.checkAll_of_no_flaw (v : Services) (h : v.integ.flaws = []) : ∀ ls : List Loc, v.checkAll ls = (true, v)
  | [] => rfl
  | l :: ls => by simp [Services.checkAll, Services.check_of_no_flaw v l h, Services.checkAll_of_no_flaw v h ls]

theorem State.check_of_no_flaw (s : State) (l : Loc) (h : s.svc.integ.flaws = []) : s.check l = (true, s) := by
  simp [State.check, Services.check_of_no_flaw s.svc l h]

theorem State.checkAll_of_no_flaw (s : State) (ls : List Loc) (h : s.svc.integ.flaws = []) : s.checkAll ls = (true, s) := by
  simp [State.checkAll, Services.checkAll_of_no_flaw s.svc h ls]

theorem State.checkEach_of_no_flaw (s : State) (h : s.svc.integ.flaws = []) :
    ∀ ls : List Loc, s.checkEach ls = (ls.map fun _ => true, s)
  | [] => rfl
  | l :: ls => by simp [State.checkEach, State.check_of_no_flaw s l h, State.checkEach_of_no_flaw s h ls]

/-! ### Raises (R156) -/

/-- A raise of a class whose enable word is good enters it by its enable. -/
theorem Services.raise_good (v : Services) (c : EventClass) (d : Detail) (h : v.flawAt (enableLoc c) = none) :
    v.raise c d = v.entered c d := by
  simp [Services.raise, Services.raiseN, h, Services.entered]

/-- With no bad word a raise enters its class by its enable. -/
theorem Services.raise_of_no_flaw (v : Services) (c : EventClass) (d : Detail) (h : v.integ.flaws = []) :
    v.raise c d = v.entered c d :=
  Services.raise_good v c d (by simp [Services.flawAt, h, flawLookup])

theorem State.raise_of_no_flaw (s : State) (c : EventClass) (d : Detail) (h : s.svc.integ.flaws = []) :
    s.raise c d = { s with svc := s.svc.entered c d } := by
  simp [State.raise, Services.raise_of_no_flaw s.svc c d h]

@[simp] theorem Services.entered_integ (v : Services) (c : EventClass) (d : Detail) : (v.entered c d).integ = v.integ := rfl

/-! ### Stores (R165, R169) -/

@[simp] theorem healAll_nil (ls : List Loc) : healAll [] ls = [] := by
  induction ls with
  | nil => rfl
  | cons l ls ih => simpa [healAll, flawErase] using ih

/-- With no injection waiting and no bad word, a store leaves the services as they were. -/
theorem Services.store_of_quiet (v : Services) (ls : List Loc) (h : v.integ.flaws = []) (hk : v.integ.kind = none) :
    v.store ls = v := by
  cases v with
  | mk e g t =>
    cases g
    simp_all [Services.store]

@[simp] theorem Services.store_events (v : Services) (ls : List Loc) : (v.store ls).events = v.events := by
  unfold Services.store
  dsimp only
  (repeat' split) <;> rfl

@[simp] theorem Services.store_trace (v : Services) (ls : List Loc) : (v.store ls).trace = v.trace := by
  unfold Services.store
  dsimp only
  (repeat' split) <;> rfl

/-- With no bad word and no injection waiting, a store into a record only changes the record. -/
theorem State.storeRecord_of_quiet (s : State) (c : Chan) (ws : List Nat) (f : Record → Record) (h : s.quiet) :
    s.storeRecord c ws f = s.onChan c fun x => { x with record := f x.record } := by
  simp [State.storeRecord, State.onChan, Services.store_of_quiet _ _ h.1 h.2]

theorem State.storeStatus_of_quiet (s : State) (c : Chan) (ws : List Nat) (f : Status → Status) (h : s.quiet) :
    s.storeStatus c ws f = s.onChan c fun x => { x with record := { x.record with status := f x.record.status } } :=
  State.storeRecord_of_quiet s c ws _ h

/-- After power-on no word is bad and no injection waits. -/
theorem reset_quiet : State.reset.quiet := ⟨rfl, rfl⟩

end Sys2Proof.Machine
end

