-- ==== Sys2Proof/Laws/Jobs.lean ====
section
/-! SUPPORT. Jobs: a completion does the same beside any queue, what the free unit does with the head of its queue, and the start of service
and the reach to a partner where no protected word is bad. -/

namespace Sys2Proof.Machine

open Sys2Proof

/-! ### What a completion delivers does not depend on the queue (R68, R73) -/

/-- A state with another job queue. -/
def State.withQueue (s : State) (q : List Job) : State := { s with cu := { s.cu with queue := q } }

variable (s : State) (q : List Job) (c : Chan)

theorem State.withQueue_ite (p : Prop) [Decidable p] (a b : State) :
    (if p then a else b).withQueue q = if p then a.withQueue q else b.withQueue q := by
  split <;> rfl

@[simp] theorem State.withQueue_now : (s.withQueue q).now = s.now := rfl
@[simp] theorem State.withQueue_lostArms : (s.withQueue q).lostArms = s.lostArms := rfl
@[simp] theorem State.withQueue_pending : (s.withQueue q).pending = s.pending := rfl
@[simp] theorem State.withQueue_ring : (s.withQueue q).ring = s.ring := rfl
@[simp] theorem State.withQueue_tb : (s.withQueue q).tb = s.tb := rfl
@[simp] theorem State.withQueue_channels : (s.withQueue q).channels = s.channels := rfl
@[simp] theorem State.withQueue_links : (s.withQueue q).links = s.links := rfl
@[simp] theorem State.withQueue_cu : (s.withQueue q).cu = { s.cu with queue := q } := rfl
@[simp] theorem State.withQueue_share : (s.withQueue q).share = s.share := rfl
@[simp] theorem State.withQueue_walker : (s.withQueue q).walker = s.walker := rfl
@[simp] theorem State.withQueue_resp : (s.withQueue q).resp = s.resp := rfl
@[simp] theorem State.withQueue_svc : (s.withQueue q).svc = s.svc := rfl
@[simp] theorem State.withQueue_chan : (s.withQueue q).chan c = s.chan c := rfl
@[simp] theorem State.withQueue_rcd : (s.withQueue q).rcd c = s.rcd c := rfl
@[simp] theorem State.withQueue_status : (s.withQueue q).status c = s.status c := rfl
@[simp] theorem State.withQueue_hid : (s.withQueue q).hid c = s.hid c := rfl
@[simp] theorem State.withQueue_partner : (s.withQueue q).partner c = s.partner c := rfl
@[simp] theorem State.withQueue_link : (s.withQueue q).link c = s.link c := rfl
@[simp] theorem State.withQueue_onChan (f : Channel → Channel) : (s.withQueue q).onChan c f = (s.onChan c f).withQueue q := rfl
@[simp] theorem State.withQueue_onHid (f : Hidden → Hidden) : (s.withQueue q).onHid c f = (s.onHid c f).withQueue q := rfl
@[simp] theorem State.withQueue_onCounts (f : ChanCounts → ChanCounts) :
    (s.withQueue q).onCounts c f = (s.onCounts c f).withQueue q := rfl
@[simp] theorem State.withQueue_onLink (f : Link → Link) : (s.withQueue q).onLink c f = (s.onLink c f).withQueue q := rfl
@[simp] theorem State.withQueue_raise (k : EventClass) (d : Detail) : (s.withQueue q).raise k d = (s.raise k d).withQueue q := rfl
@[simp] theorem State.withQueue_check (l : Loc) :
    (s.withQueue q).check l = ((s.check l).1, (s.check l).2.withQueue q) := rfl
@[simp] theorem State.withQueue_storeRecord (ws : List Nat) (f : Record → Record) :
    (s.withQueue q).storeRecord c ws f = (s.storeRecord c ws f).withQueue q := rfl
@[simp] theorem State.withQueue_storeStatus (ws : List Nat) (f : Status → Status) :
    (s.withQueue q).storeStatus c ws f = (s.storeStatus c ws f).withQueue q := rfl
@[simp] theorem State.withQueue_advance (t : Nat) : (s.withQueue q).advance t = (s.advance t).withQueue q := rfl

@[simp] theorem State.withQueue_checkEach (ls : List Loc) :
    ∀ s : State, (s.withQueue q).checkEach ls = ((s.checkEach ls).1, (s.checkEach ls).2.withQueue q) := by
  induction ls with
  | nil => intro s; rfl
  | cons l ls ih => intro s; simp [State.checkEach, ih]

@[simp] theorem State.withQueue_badWords (ls : List Loc) :
    (s.withQueue q).badWords ls = ((s.badWords ls).1, (s.badWords ls).2.withQueue q) := by
  simp [State.badWords]

@[simp] theorem State.withQueue_readState : (s.withQueue q).readState c = ((s.readState c).1, (s.readState c).2.withQueue q) := rfl

@[simp] theorem State.withQueue_readAck : (s.withQueue q).readAck c = ((s.readAck c).1, (s.readAck c).2.withQueue q) := by
  by_cases h : (s.link c).note = true <;> simp [State.readAck, h]
  rfl

@[simp] theorem State.withQueue_startRecord (src : RecordSource) :
    (s.withQueue q).startRecord c src = (s.startRecord c src).withQueue q := by
  simp [State.startRecord]

@[simp] theorem State.withQueue_handRecord (src : RecordSource) :
    (s.withQueue q).handRecord c src = (s.handRecord c src).withQueue q := by
  by_cases h : (s.link c).sending.isNone = true <;> simp [State.handRecord, h]

@[simp] theorem State.withQueue_enterState (st : ChanState) (ws : List Nat) (f : Status → Status) :
    (s.withQueue q).enterState c st ws f = (s.enterState c st ws f).withQueue q := rfl

@[simp] theorem State.withQueue_enterStopping (k : StopKind) (code : FaultCode) :
    (s.withQueue q).enterStopping c k code = (s.enterStopping c k code).withQueue q := rfl

@[simp] theorem State.withQueue_raiseFault (code : FaultCode) :
    (s.withQueue q).raiseFault c code = (s.raiseFault c code).withQueue q := rfl

@[simp] theorem State.withQueue_endStop : (s.withQueue q).endStop c = (s.endStop c).withQueue q := rfl

@[simp] theorem State.withQueue_readPairing :
    (s.withQueue q).readPairing c = ((s.readPairing c).1, (s.readPairing c).2.withQueue q) := by
  simp [State.readPairing]

@[simp] theorem State.withQueue_readPair (asks : Role → Bool) :
    (s.withQueue q).readPair c asks = ((s.readPair c asks).1, (s.readPair c asks).2.withQueue q) := by
  by_cases h : asks (s.readPairing c).1.1 = false ∨ (s.readPairing c).1.2 = c <;> simp [State.readPair, h]

@[simp] theorem State.withQueue_partnerFault : (s.withQueue q).partnerFault c = (s.partnerFault c).withQueue q := by
  unfold State.partnerFault State.onPartner
  simp only [State.withQueue_readPair]
  split
  · simp only [State.withQueue_ite]
    rfl
  · rfl

@[simp] theorem State.withQueue_enterFaulted (code : FaultCode) (old : Option ChanState) (atOnce : Bool) :
    (s.withQueue q).enterFaulted c code old atOnce = (s.enterFaulted c code old atOnce).withQueue q := by
  unfold State.enterFaulted State.gateOff
  simp only [State.withQueue_ite, ← State.withQueue_handRecord]
  rfl

@[simp] theorem State.withQueue_immediateFault (code : FaultCode) (old : Option ChanState) (atOnce : Bool) :
    (s.withQueue q).immediateFault c code old atOnce = (s.immediateFault c code old atOnce).withQueue q := by
  simp [State.immediateFault]

@[simp] theorem State.withQueue_calibrationFault : (s.withQueue q).calibrationFault c = (s.calibrationFault c).withQueue q := by
  simp [State.calibrationFault]

@[simp] theorem State.withQueue_readDegraded :
    (s.withQueue q).readDegraded c = ((s.readDegraded c).1, (s.readDegraded c).2.withQueue q) := by
  simp [State.readDegraded]

@[simp] theorem State.withQueue_testDegraded (n limit : Nat) (old : ChanState) (atOnce : Bool) :
    (s.withQueue q).testDegraded c n limit old atOnce = (s.testDegraded c n limit old atOnce).withQueue q := by
  simp [State.testDegraded, State.withQueue_ite]

@[simp] theorem State.withQueue_rampDone (v : Service) (n : NormalResult) :
    (s.withQueue q).rampDone c v n = ((s.rampDone c v n).1, (s.rampDone c v n).2.withQueue q) := by
  by_cases h : v.state0 = .stopping ∧ n.rampQ = 0 ∧ n.rampD = 0 <;> simp [State.rampDone, h]

@[simp] theorem State.withQueue_finishNormal (v : Service) (rep : StageReport) :
    (s.withQueue q).finishNormal v rep = (s.finishNormal v rep).withQueue q := by
  unfold State.finishNormal
  simp only [State.withQueue_storeStatus, State.withQueue_onHid, State.withQueue_rampDone, State.withQueue_handRecord, State.withQueue_endStop,
    ← State.withQueue_ite]

@[simp] theorem State.withQueue_finishBlind (v : Service) : (s.withQueue q).finishBlind v = (s.finishBlind v).withQueue q := by
  simp [State.finishBlind]

@[simp] theorem State.withQueue_endCalibration : (s.withQueue q).endCalibration c = (s.endCalibration c).withQueue q := by
  unfold State.endCalibration
  simp only [State.withQueue_ite, ← State.withQueue_enterState, ← State.withQueue_calibrationFault]
  simp

@[simp] theorem State.withQueue_finishMeasure (v : Service) :
    (s.withQueue q).finishMeasure v = (s.finishMeasure v).withQueue q := by
  unfold State.finishMeasure
  simp only [State.withQueue_ite, ← State.withQueue_endCalibration, ← State.withQueue_handRecord]
  rfl

@[simp] theorem State.withQueue_deliver (v : Service) : (s.withQueue q).deliver v = (s.deliver v).withQueue q := by
  unfold State.deliver
  (repeat' split) <;> simp

@[simp] theorem State.withQueue_capture : (s.withQueue q).capture = s.capture.withQueue q := by
  unfold State.capture
  simp only [State.withQueue_svc, State.withQueue_badWords, State.withQueue_ite]
  rfl

@[simp] theorem State.withQueue_captureFor : (s.withQueue q).captureFor c = (s.captureFor c).withQueue q := by
  simp [State.captureFor, State.withQueue_ite]

@[simp] theorem State.withQueue_applyWrite (ps : List (Nat × Int)) :
    (s.withQueue q).applyWrite c ps = (s.applyWrite c ps).withQueue q := by
  unfold State.applyWrite
  simp only [State.withQueue_ite]
  rfl

theorem State.withQueue_applyHeld : (s.withQueue q).applyHeld c = (s.applyHeld c).withQueue q := by
  have h : ∀ (l : List (List (Nat × Int))) (x : State),
      l.foldl (fun x ps => x.applyWrite c ps) (x.withQueue q) = (l.foldl (fun x ps => x.applyWrite c ps) x).withQueue q := by
    intro l
    induction l with
    | nil => intro x; rfl
    | cons p l ih => intro x; simp [ih]
  simp [State.applyHeld, h]

/-- A completion does beside a queue what it does beside none, and the free unit then acts on the queue (R73). -/
theorem State.completeJob_withQueue (v : Service) :
    (s.withQueue q).completeJob v = (((s.withQueue []).completeJob v).withQueue q).dispatchJobs := by
  unfold State.completeJob
  simp only [State.withQueue_deliver, State.withQueue_captureFor, State.withQueue_applyHeld, State.withQueue_onCounts]
  rfl

/-! ### The head of the queue (R72) -/

@[simp] theorem State.withQueue_degraded (atOnce : Bool) :
    (s.withQueue q).degraded c atOnce = (s.degraded c atOnce).withQueue q := by
  unfold State.degraded
  simp only [State.withQueue_readState, State.withQueue_readDegraded, State.withQueue_storeStatus, State.withQueue_testDegraded,
    State.withQueue_ite]

@[simp] theorem State.withQueue_abandon (j : Job) : (s.withQueue q).abandon j = (s.abandon j).withQueue q := by
  simp [State.abandon]

theorem ComputeUnit.markLeft_of_free (u : ComputeUnit) (st : ChanState) (h : u.service = none) : u.markLeft c st = u := by
  cases u
  simp_all [ComputeUnit.markLeft]

theorem State.enterState_cu_of_free (st : ChanState) (ws : List Nat) (f : Status → Status) (h : s.cu.service = none) :
    (s.enterState c st ws f).cu = s.cu := ComputeUnit.markLeft_of_free c s.cu st h

theorem State.partnerFault_cu_of_free (h : s.cu.service = none) : (s.partnerFault c).cu = s.cu := by
  unfold State.partnerFault State.onPartner
  dsimp only
  split
  · split <;> simp [State.enterStopping, State.enterState_cu_of_free, h]
  · simp

theorem State.enterFaulted_cu_of_free (code : FaultCode) (old : Option ChanState) (atOnce : Bool) (h : s.cu.service = none) :
    (s.enterFaulted c code old atOnce).cu = s.cu := by
  unfold State.enterFaulted
  (repeat' split) <;> simp [State.enterState_cu_of_free, h]

theorem State.abandon_cu_of_free (j : Job) (h : s.cu.service = none) : (s.abandon j).cu = s.cu := by
  unfold State.abandon State.degraded State.testDegraded State.immediateFault
  dsimp only
  (repeat' split) <;> simp [State.partnerFault_cu_of_free, State.enterFaulted_cu_of_free, h]

/-- A free unit has nothing to take from an empty queue. -/
theorem State.dispatchJobs_nil (h : s.cu.queue = []) : s.dispatchJobs = s := by
  simp [State.dispatchJobs, h, State.takeHeads]

/-- A free unit takes the head of a queue (R72): it starts it if it can finish by its deadline, and abandons it and takes the next if not. -/
theorem State.dispatchJobs_cons (j : Job) (h : s.cu = { queue := j :: q, service := none }) :
    s.dispatchJobs =
      if s.now + 150 ≤ j.deadline then (s.withQueue q).startJob j else ((s.withQueue q).abandon j).dispatchJobs := by
  have a : ((s.withQueue q).abandon j).cu.queue = q := by
    rw [State.abandon_cu_of_free _ j (by simp [State.withQueue, h])]
    rfl
  by_cases d : s.now + 150 ≤ j.deadline
  · simp [State.dispatchJobs, State.takeHeads, h, Config.jobTicks, d, Nat.not_lt.mpr d, State.withQueue]
  · simp only [State.dispatchJobs, a, d]
    simp [State.takeHeads, h, Config.jobTicks, Nat.lt_of_not_le d, State.withQueue]

/-! ### Pairs and the start of service, no protected word being bad (R23, R24, R28, R29) -/

/-- The pair read through good words is the pair held. -/
theorem State.readPair_of_quiet (asks : Role → Bool) (h : s.quiet) :
    s.readPair c asks =
      ({ role := (s.rcd c).setup.role, partner := if asks (s.rcd c).setup.role then s.partner c else none }, s) := by
  unfold State.readPair State.readPairing State.partner
  simp only [State.checkEach_of_no_flaw _ h.1, pairLocs, Record.pairing]
  by_cases h1 : asks (s.rcd c).setup.role = true <;> by_cases h2 : (s.rcd c).setup.partner = c <;> simp [h1, h2, pairValid]

theorem State.partner_of_no_role (h : (s.rcd c).setup.role = .none) : s.partner c = none := by
  simp [State.partner, Record.pairing, h, pairValid]

/-- A fault reaches the RUNNING partner of a valid pair alone (R24). -/
theorem State.partnerFault_of_quiet (h : s.quiet) :
    s.partnerFault c = match s.partner c with
      | none => s
      | some d => if (s.status d).state = .running then (s.enterStopping d .fault .partner).raiseFault d .partner else s := by
  unfold State.partnerFault State.onPartner
  rw [State.readPair_of_quiet s c _ h]
  by_cases hr : (s.rcd c).setup.role = .none
  · simp [Role.paired, hr, s.partner_of_no_role c hr]
  · simp only [Role.paired, ne_eq, hr, not_false_eq_true, decide_true, if_true]
    rcases s.partner c with _ | d <;> simp [State.readState, State.check_of_no_flaw _ _ h.1, takenState]

/-- The job of a follower of a valid pair reads its leader's applied iq* (R29). -/
theorem State.leaderIq_of_quiet (h : s.quiet) :
    s.leaderIq c =
      (if (s.rcd c).setup.role = .follower then (s.partner c).map fun d => (s.status d).fb.iqRef else none, s) := by
  unfold State.leaderIq
  rw [State.readPair_of_quiet s c _ h]
  simp only [State.check_of_no_flaw _ _ h.1]
  rcases (s.rcd c).setup.role <;> simp
  rcases s.partner c <;> simp [orZero]

/-- A job that no check stopped is in service with its picture of the channel (R28, R29), and nothing else has changed. -/
theorem State.serve_of_quiet (j : Job) (st : ChanState) (h : s.quiet) :
    s.serve j st false = { s with cu := { s.cu with service := some {
      job := j
      kind := jobKind st j.report
      state0 := st
      blocked := false
      left := false
      rearmed := false
      startedAt := s.now
      record := s.rcd j.chan
      hid := s.hid j.chan
      leaderIq := if st = .running ∧ (s.rcd j.chan).setup.role = .follower then
          (s.partner j.chan).map fun d => (s.status d).fb.iqRef
        else none } } } := by
  unfold State.serve
  by_cases e : st = .running
  · simp [e, State.leaderIq_of_quiet _ _ h]
  · simp [e]

end Sys2Proof.Machine
end

