-- ==== Sys2Proof/Laws/Transmitter.lean ====
section
/-! SUPPORT. What passing time does at the transmitters of the ring ports: what it keeps, and when it does nothing. -/

namespace Sys2Proof.Machine

open Sys2Proof

/-- What the frame being passed may have become: itself, or lost. -/
def Ring.sameFrame (r q : Ring) : Prop := q.frame = r.frame ∨ q.frame = r.frame.map fun f => { f with lost := true }

/-- What time passing at the transmitters leaves alone. -/
structure Ring.Kept (r q : Ring) : Prop where
  portU : q.portU = r.portU
  portD : q.portD = r.portD
  topology : q.topology = r.topology
  participation : q.participation = r.participation
  address : q.address = r.address
  forwarded : q.forwarded = r.forwarded ∨ q.forwarded = some { path := .outU, words := [] }
  counts : q.counts = { r.counts with lost := q.counts.lost }
  frame : r.sameFrame q

theorem Ring.Kept.refl (r : Ring) : r.Kept r := ⟨rfl, rfl, rfl, rfl, rfl, .inl rfl, rfl, .inl rfl⟩

/-- The transmitter's own places may change. -/
theorem Ring.Kept.places (r : Ring) (due : List TxFrame) (sending waiting : Option TxFrame) :
    r.Kept { r with uDue := due, uSending := sending, uWaiting := waiting } := ⟨rfl, rfl, rfl, rfl, rfl, .inl rfl, rfl, .inl rfl⟩

theorem Ring.sameFrame.trans {r q p : Ring} (h : r.sameFrame q) (k : q.sameFrame p) : r.sameFrame p := by
  rcases h with h | h <;> rcases k with k | k <;> cases hf : r.frame <;> simp_all [Ring.sameFrame]

theorem Ring.Kept.trans {r q p : Ring} (h : r.Kept q) (k : q.Kept p) : r.Kept p :=
  ⟨k.portU.trans h.portU, k.portD.trans h.portD, k.topology.trans h.topology, k.participation.trans h.participation,
    k.address.trans h.address, k.forwarded.elim (fun e => h.forwarded.imp e.trans e.trans) .inr, by rw [k.counts, h.counts], h.frame.trans k.frame⟩

theorem Ring.kept_offer (r : Ring) (x : TxFrame) : r.Kept (r.offer x) := by
  unfold Ring.offer
  split
  · exact .places r _ _ _
  · split
    · exact .places r _ _ _
    · unfold Ring.dropTx
      refine ⟨rfl, rfl, rfl, rfl, rfl, ?_, rfl, ?_⟩
      · dsimp only
        split
        · exact .inr rfl
        · exact .inl rfl
      · unfold Ring.sameFrame
        dsimp only
        split
        · exact .inr rfl
        · exact .inl rfl

theorem Ring.kept_settleOnce {r q : Ring} {now : Nat} (h : r.settleOnce now = some q) : r.Kept q := by
  unfold Ring.settleOnce at h
  dsimp only at h
  split at h
  · cases hg : r.uSending.bind TxFrame.goneAt with
    | none => simp [hg] at h
    | some g =>
      simp only [hg, Option.bind_some] at h
      split at h
      · cases h; exact .places r _ _ _
      · cases h
  · split at h
    · cases hg : r.uSending.bind TxFrame.goneAt with
      | none => simp [hg] at h
      | some g => simp only [hg, Option.map_some, Option.some.injEq] at h; subst h; exact .places r _ _ _
    · split at h
      · cases h
        exact (Ring.Kept.places r _ _ _).trans (Ring.kept_offer _ _)
      · cases h

theorem Ring.kept_settleN (n : Nat) : ∀ (r : Ring) (now : Nat), r.Kept (r.settleN n now) := by
  induction n with
  | zero => intro r now; exact .refl r
  | succ n ih =>
    intro r now
    unfold Ring.settleN
    split
    · rename_i q h; exact (Ring.kept_settleOnce h).trans (ih q now)
    · exact .refl r

/-- Time passing at the transmitters changes none but the transmitters themselves, the count of lost frames, the note of a frame that is
dropped, and whether the frame
being passed is lost. -/
theorem Ring.kept_settle (r : Ring) (now : Nat) : r.Kept (r.settle now) :=
  have h := Ring.kept_settleN (2 * r.uDue.length + 2) r now
  ⟨h.portU, h.portD, h.topology, h.participation, h.address, h.forwarded, h.counts, h.frame⟩

@[simp] theorem Ring.settle_portU (r : Ring) (now : Nat) : (r.settle now).portU = r.portU := (r.kept_settle now).portU
@[simp] theorem Ring.settle_portD (r : Ring) (now : Nat) : (r.settle now).portD = r.portD := (r.kept_settle now).portD
@[simp] theorem Ring.settle_topology (r : Ring) (now : Nat) : (r.settle now).topology = r.topology := (r.kept_settle now).topology
@[simp] theorem Ring.settle_participation (r : Ring) (now : Nat) : (r.settle now).participation = r.participation :=
  (r.kept_settle now).participation
@[simp] theorem Ring.settle_address (r : Ring) (now : Nat) : (r.settle now).address = r.address := (r.kept_settle now).address

/-- The note of the last frame forwarded stays, or names a frame dropped at Port U's transmitter, with no words. -/
theorem Ring.settle_forwarded (r : Ring) (now : Nat) :
    (r.settle now).forwarded = r.forwarded ∨ (r.settle now).forwarded = some { path := .outU, words := [] } :=
  (r.kept_settle now).forwarded

/-- A port is left alone. -/
@[simp] theorem Ring.settle_port (r : Ring) (now : Nat) (p : Port) : (r.settle now).port p = r.port p := by
  cases p <;> simp [Ring.port]

/-- No more words have left than came. -/
theorem leftBy_le (times : List Nat) (delay now : Nat) : leftBy times delay now ≤ times.length :=
  (List.takeWhile_sublist _).length_le

/-- Once the delay has passed for every word, all have left. -/
theorem leftBy_all {times : List Nat} {delay now : Nat} (h : ∀ a ∈ times, a + delay ≤ now) : leftBy times delay now = times.length := by
  rw [leftBy, List.takeWhile_eq_self_iff.mpr (by simpa using h)]

/-- A frame that is closed at once leaves nothing of itself at the transmitter and changes no other block of the ring (R112); with the
frame being sent withdrawn, the waiting one starts now. -/
theorem Ring.withdrawTx_eq (r : Ring) (returning : Bool) (now : Nat) :
    let live (x : TxFrame) : Bool := !x.isOpen returning
    let waiting := r.uWaiting.filter live
    (r.uSending.any (fun x => x.isOpen returning) = true → r.withdrawTx returning now = { r with
      uDue := r.uDue.filter live, uSending := waiting.map fun w => { w with leftAt := some (max w.due now) }, uWaiting := none }) ∧
    (r.uSending.any (fun x => x.isOpen returning) = false → r.withdrawTx returning now = { r with
      uDue := r.uDue.filter live, uWaiting := waiting }) := by
  cases h : r.uSending with
  | none => cases r; simp_all [Ring.withdrawTx]
  | some x => cases hx : x.isOpen returning <;> simp [Ring.withdrawTx, Ring.startWaiting, h, hx, Option.filter]

/-- Of a lost frame nothing more is noted as gone (R113). -/
theorem Ring.noteLeft_lost (r : Ring) {f : Frame} (words : List Word) (now : Nat) (h : f.lost = true) :
    r.noteLeft f words now = r.forwarded := by
  simp [Ring.noteLeft, Ring.forwarding, h]

/-- With no ended frame still going out of Port D, its leaving UP loses none of them. -/
theorem Ring.loseTail_nil (r : Ring) (now : Nat) (h : r.dTail = []) : r.loseTail now = r := by
  cases r
  simp_all [Ring.loseTail, RingCounts.lose]

/-- With nothing in or before Port U's transmitter, time passing only lets the ended frames of Port D go. -/
theorem Ring.settle_idle (r : Ring) (now : Nat) (hd : r.uDue = []) (hs : r.uSending = none) :
    r.settle now = { r with dTail := r.dTail.filter fun g => decide (now < g.gone) } := by
  simp [Ring.settle, Ring.settleN, Ring.settleOnce, hd, hs]

/-- At idle transmitters the state of the ring is not touched by time passing. -/
theorem State.arrive_idle (s : State) (t : Nat) (hd : s.ring.uDue = []) (hs : s.ring.uSending = none) (ht : s.ring.dTail = []) :
    s.arrive t = { s with now := max s.now t } := by
  have hr : { s.ring with dTail := [] } = s.ring := by rw [← ht]
  simp [State.arrive, State.onRing, State.advance, Ring.settle_idle _ _ hd hs, ht, hr]

end Sys2Proof.Machine
end

