-- ==== Sys2Proof/Tests/Slice0.lean ====
section
/-! SUPPORT. Tests: ill-formed terms that WellFormed refuses, worked cases of the spec, and for each statement with hypotheses a state
and operands that meet them. -/

namespace Sys2Proof.Tests

open Sys2Proof Sys2Proof.Machine

-- The tests are elaborated one after another: in parallel they would ask for more threads than the memory limit allows.
set_option Elab.async false

/-! ## Building small states and requests -/

/-- The state after a command. -/
def after (i : Instr) (s : State) : State :=
  match exec i s with
  | .next u => u
  | .fault _ => s
  | .refused _ => s

/-- A request area of tag 9 for node 1. -/
def rq (kind table count index word : Nat) (data : List Word := []) : ReqArea :=
  { target := 1, tag := 9, kind := BitVec.ofNat 3 kind, table := BitVec.ofNat 4 table, count := BitVec.ofNat 4 count
    index := BitVec.ofNat 8 index, word := BitVec.ofNat 8 word, data := Vector.ofFn fun i : Fin 8 => data.getD i.val 0 }

/-- A COMMAND. -/
def cmd (code : Nat) (index : Nat := 0) (d : Word := 0) : ReqArea := rq 2 0 0 index code [d]

/-- A header with its check, its unused bits 0, and a request area. -/
def header (kind n cycle position : Nat) (request : List Word := List.replicate 10 0) : Vector Word 13 :=
  let ws : List Word := [toWord (kind * 1073741824 + (n - 1) * 2097152 + cycle : Nat), toWord (position * 16777216 : Nat)] ++
    request
  Vector.ofFn fun i : Fin 13 => (ws ++ [headerCrc ws ++ (0 : BitVec 16)]).getD i.val 0

/-- A node with address 1 and both ports UP. -/
def node : State :=
  { State.reset with ring := { State.reset.ring with
      address := 1, portU := { state := .up, goodRun := 64 }, portD := { state := .up, goodRun := 64 } } }

/-- The node with its timebase LOCKED. -/
def locked : State := { node with tb := { node.tb with state := .locked } }

/-- Channel 0 in a state, its link PRESENT. -/
def chan0 (st : ChanState) (f : Record → Record := id) : State :=
  let x := locked.onChan 0 fun k => { k with record := f { k.record with status := { k.record.status with state := st } } }
  x.onLink 0 fun l => { l with present := true }

/-- A frame of one payload word, of which some words have passed. -/
def frame (phase : HeaderPhase) (passed : List Word) : Frame :=
  let h := if phase = .awaiting then [] else (header (if phase = .reset then 1 else 0) 1 7 0).toList
  { stamp := 5, path := .outD, lost := false, phase := phase, active := true, rx := h ++ passed, tx := h ++ passed
    times := (h ++ passed).map fun _ => 5 }

/-- The node with a frame being passed. -/
def passes (f : Frame) (s : State := node) : State := { s with ring := { s.ring with frame := some f } }

/-- A report with all currents and the angle 0. -/
def report : StageReport :=
  { echo := 0, ia := 0, ib := 0, ic := 0, u := 0, theta := 0, angleValid := true, temp := 0, desat := false, wasReset := false
    reply := none }

/-- An open window. -/
def window : Window := { period := 0, j := 0, time := 100, deadline := 5000, expected := 0 }

/-! ## Ill-formed terms -/

theorem test_order_twice_refused : WellFormed (.cycleBoundary [3, 3]) = false ∧ WellFormed (.holdoverTimeout [1, 1]) = false ∧
    WellFormed (.frameCheck 0 0 true [2, 2]) = false ∧ WellFormed (.endSymbol 0 [] [0, 0]) = false := by decide
theorem test_write_rows_refuse_other_tables :
    WellFormed (.write 0 (rq 1 1 1 0 0)) = false ∧ WellFormed (.write 0 (rq 0 9 1 0 0)) = false ∧
    WellFormed (.channelWrite 0 (rq 1 2 1 0 0)) = false ∧ WellFormed (.timebaseWrite 0 (rq 0 6 1 0 0)) = false ∧
    WellFormed (.shareWrite 0 (rq 1 6 1 0 0)) = false ∧ WellFormed (.nodeWrite 0 (rq 1 1 1 0 0)) = false ∧
    WellFormed (.mapWrite 0 (rq 1 3 1 0 0)) = false ∧ WellFormed (.mapControlWrite 0 (rq 1 2 1 0 0)) = false ∧
    WellFormed (.alertWrite 0 (rq 1 5 1 0 0)) = false ∧ WellFormed (.integrityWrite 0 (rq 1 8 1 0 0)) = false ∧
    WellFormed (.traceWrite 0 (rq 1 7 1 0 0)) = false ∧ WellFormed (.stageWrite 0 (rq 0 10 1 0 0)) = false := by decide
theorem test_read_rows_refuse_other_areas :
    WellFormed (.stageRead 0 (rq 0 9 1 0 0)) = false ∧ WellFormed (.read 0 (rq 0 10 1 0 0)) = false ∧
    WellFormed (.read 0 (rq 1 0 1 0 0)) = false := by decide
theorem test_command_rows_refuse_other_codes :
    WellFormed (.clearEvents 0 (cmd 1)) = false ∧ WellFormed (.clearCounters 0 (cmd 0)) = false ∧
    WellFormed (.nodeReset 0 (cmd 3)) = false ∧ WellFormed (.mapEnable 0 (cmd 4)) = false ∧
    WellFormed (.mapDisable 0 (cmd 3)) = false ∧ WellFormed (.syncClear 0 (cmd 6)) = false ∧
    WellFormed (.stageReset 0 (cmd 7)) = false ∧ WellFormed (.traceArm 0 (cmd 9)) = false ∧
    WellFormed (.traceTrigger 0 (cmd 8)) = false ∧ WellFormed (.traceStop 0 (cmd 11)) = false ∧
    WellFormed (.integrityClear 0 (rq 1 0 0 0 11)) = false := by decide
theorem test_request_rows_refuse_other_codes :
    WellFormed (.arm 0 (cmd 7 0 2)) = false ∧ WellFormed (.run 0 (cmd 7 0 1)) = false ∧ WellFormed (.halt 0 (cmd 7 0 4)) = false ∧
    WellFormed (.off 0 (cmd 7 0 5)) = false ∧ WellFormed (.clear 0 (cmd 6 0 5)) = false ∧
    WellFormed (.noneRequest 0 (cmd 7 0 5)) = false := by decide
theorem test_vector_and_fetch_rows_refuse :
    WellFormed (.vectorEvent 0 (rq 3 0 0 1 0)) = false ∧ WellFormed (.vectorReset 0 (rq 3 0 0 0 0)) = false ∧
    WellFormed (.fetch 0 (rq 3 0 0 0 0)) = false := by decide

/-! ## Decoding: the table gives no bits (log 34) -/

theorem test_no_word_spells_a_command : decodeTableWord 32 7 = none ∧ (node.withFetchWord 32 7).pending = [] := by decide

/-! ## Worked cases of the spec -/

/-- The settings of the worked case 2.11. -/
def steady : Record :=
  { setup := { periods := 1 }
    tuning := { kpD := 2048, kpQ := 2048, kiD := 1024, kiQ := 1024, modLimit := 31130, iqLim := 20000, idLim := 10000, imax := 20000, cmin := 50 }
    status := { state := .running, offA := 100, offB := -100, iqPrev := 4000, iqCur := 4000, accQ := 1000000 } }

/-- 2.11: the accumulators, the power and the compare values. -/
theorem test_steady_job :
    let n := normalJob steady { thetaPrev := 8192, histPeriod := 4, firstJob := false, effP := 12500, effN := 1 } false 5 0 none
      { report with ia := 5100, ib := BitVec.ofInt 16 (-2400), ic := BitVec.ofInt 16 (-2700), u := 16000, theta := 8192 }
    n.accD = -3787776 ∧ n.accQ = 8548928 ∧ n.fb.id = 3699 ∧ n.fb.iq = -3372 ∧ n.fb.vd = -1907 ∧ n.fb.vq = 3816 ∧ n.fb.p = -608 ∧
      n.fb.cmp = { a := 4836, b := 7664, c := 6750 } ∧ n.fb.flags = {} := by decide +kernel

/-- The settings of the worked case 2.12. -/
def sagged : Record :=
  { setup := { periods := 2, fwOn := true }
    tuning := { kpD := 4096, kpQ := 4096, kiD := 2048, kiQ := 2048, modLimit := 31130, iqLim := 20000, idLim := 12000, imax := 20000
                cmin := 600, advance := 0, idFwMin := -8000, fwStep := 200, fwThreshold := 29491 }
    status := { state := .running, offA := 20, offB := -12, offC := 10, iqPrev := 8000, iqCur := 8000, accD := -10000000
                accQ := 40000000, idFw := -3200, vdFf := -4000, vqFf := 13000 } }

/-- 2.12: the voltage limit, the anti-windup and the field weakening; then the blind job that follows. -/
theorem test_job_at_the_voltage_limit :
    let n := normalJob sagged { thetaPrev := 64512, omega := 1024, histPeriod := 4, firstJob := false, effP := 12500, effN := 2 } false 5 0 none
      { report with ia := BitVec.ofInt 16 (-2980), ib := 5988, ic := BitVec.ofInt 16 (-2990), u := 15000 }
    n.accD = -10409600 ∧ n.accQ = 40000000 ∧ n.idFw = -3400 ∧ n.fb.vd = -4359 ∧ n.fb.vq = 15866 ∧ n.fb.p = 2915 ∧
      n.fb.cmp = { a := 3526, b := 12500, c := 0 } ∧ n.fb.flags = { qVolt := true } := by decide +kernel
theorem test_blind_job :
    let b := blindJob { sagged with status := { sagged.status with fb := { vd := -4359, vq := 15866, u := 15000 } } }
      { thetaPrev := 0, omega := 1024, histPeriod := 5, effP := 12500 } 6
    b.theta = 1024 ∧ b.omega = 1024 ∧ b.cmp = { a := 2567, b := 11793, c := 707 } := by decide +kernel

/-- 2.13: the offsets of a calibration. -/
theorem test_calibration_offsets : calOffset 6431 = 100 ∧ calOffset (-2080) = -32 ∧ calOffset 112 = 2 := by decide

/-- 3.3, worked sequence: mark 1 jumps, mark 2 slews by 3. -/
theorem test_marks :
    let b : Timebase := { ringDelay := 1240, nextBoundary := 75000 }
    let m1 := b.mark 61000 61000
    let m2 := { m1.1 with nextBoundary := 110845 }.mark 86003 86003
    m1.1.state = .acquire ∧ m1.1.lastError = 10845 ∧ m1.1.nextBoundary = 85845 ∧
      m2.1.lastError = 3 ∧ m2.1.nextBoundary = 110848 ∧ m2.1.inRun = 1 := by decide

/-- 5.6, worked allocation, cycles 1 and 3. -/
theorem test_allocation :
    (allocate 6400 fun r => [2200, 300, 4500, 0].getD r 0) = { left := 0, cut := some 2, factors := [32767, 32767, 28398, 0] } ∧
    (allocate 2400 fun r => [2200, 300, 4000, 0].getD r 0) = { left := 0, cut := some 1, factors := [32767, 21844, 0, 0] } ∧
    effLimit { iqLim := 30000 } 28398 = 25999 := by decide

/-- 7.7, variation: an entry written by R126 with an item its action does not define is END. -/
theorem test_entry_rules :
    (({} : MapEntry).putWord0 (toWord (1 * 536870912 + 10 * 524288 + 5 * 2048 : Nat))).action = .endWalk ∧
    (({} : MapEntry).putWord0 (toWord (5 * 536870912 + 1023 * 524288 : Nat))).offset = 1023 ∧
    (({} : MapEntry).putWord0 (toWord (2 * 536870912 + 1023 * 524288 : Nat))).offset = 511 := by decide

/-- 9.5, worked sequence: VECTOR(RESET) returns POWER_ON with 1 pending, then RING_RESET with 0, then 0. -/
theorem test_reset_causes :
    let e0 : Events := { causeRing := true }
    e0.takeCause.1 = [1, 1] ∧ e0.takeCause.2.takeCause.1 = [2, 0] ∧ e0.takeCause.2.takeCause.2.takeCause.1 = [0, 0] := by decide

/-- 11.4, worked capture: captures 4 and 5 cross the level, and 8 completes the post count. -/
theorem test_level_trigger :
    let e : TraceEntry := { w0 := 0, w1 := 0, w2 := 0 }
    let t : Trace := { state := .armed, pre := 3, post := 4, source := .rising, level := 5000, entries := [e, e, e], next := 5
                       sample := 5, prevLane := some 4900 }
    let c5 := (t.place e 5300).1
    let c8 := (((c5.place e 6100).1.place e 6800).1.place e 7000)
    c5.state = .post ∧ c5.trigSample = 5 ∧ c5.entries.length = 4 ∧ c8.1.state = .done ∧ c8.2 = true ∧ c8.1.entries.length = 7 := by
  decide

/-- R36: sine and cosine at the angles the rule names. -/
theorem test_sine : sine 0 = 0 ∧ cosine 0 = 32767 ∧ sine 16384 = 32767 ∧ cosine 16384 = 0 ∧ sine 8192 = 23170 ∧ cosine 8192 = 23170 := by
  decide +kernel

/-! ## One step of some commands -/

/-- R123: the position counter 4 gives the address 5; the ring reset adds its cause. -/
theorem test_reset_header :
    let u := after (.headerCheck 20 (header 1 1 7 4)) (passes (frame .awaiting []))
    u.ring.address = 5 ∧ u.svc.events.causeRing = true := by decide +kernel
/-- R148, R116: the values clamped and read back. -/
theorem test_share_write :
    let u := after (.shareWrite 3 (rq 1 5 2 0 0 [7, 0xFFFFFFFF])) node
    u.share.enable = true ∧ u.share.supply = 1048575 ∧ u.resp.formed.elim [] Reply.data = [1, 1048575] := by decide +kernel
/-- R9: an ARM with the timebase not LOCKED is refused with reason 1. -/
theorem test_arm_refused :
    let u := after (.arm 3 (cmd 7 0 1)) node
    (u.status 0).state = .off ∧ u.svc.events.pending[12] = some { detail := { w0 := 0, w1 := 1 }, count := 1 } := by
  decide +kernel
/-- R80: the boundary starts a keep-alive on the link of an OFF channel. -/
theorem test_boundary_keep_alive :
    let u := after (.cycleBoundary []) node
    u.tb.nextBoundary = 50000 ∧ ((u.link 5).sending.elim false DutyRecord.keepAlive) = true := by decide +kernel

/-! ## States and operands that meet the hypotheses of the statements -/

/-- The words a request names. -/
theorem named_words {r : ReqArea} {lo n w : Nat} (hw : r.word.toNat = lo) (hn : r.count.toNat = n) (h : names r w) :
    lo ≤ w ∧ w < lo + n := by
  subst hw hn
  exact h

theorem meets_StepRunsTheFrontCommand : ({ node with pending := [.powerOn] } : State).pending = [.powerOn] ∧ node.pending = [] := by
  decide
/-- The node with a state at Port U. -/
def portU (x : RingPort) : State := { node with ring := { node.ring with portU := x } }
theorem meets_PortSymbolsMoveTheLinkState :
    let x (st : PortLink) (good bad : Nat) : RingPort := (portU { state := st, goodRun := good, badRun := bad }).ring.port .u
    let f := frame .cycle []
    ((x .down 0 0).state = .down ∧ (x .training 5 0).state = .training ∧ LineSymbol.frameWord 0 ≠ .idle ∧
      (x .training 62 0).goodRun + 1 ≠ 64 ∧ (x .training 63 0).goodRun + 1 = 64 ∧ (x .up 0 14).state = .up ∧
      LineSymbol.idle ≠ .bad ∧ (x .up 0 14).badRun + 1 ≠ 16 ∧ (x .up 0 15).badRun + 1 = 16) ∧
    ((node.arrive 9).ring.frame = none ∧ (node.arrive 9).ring.back = none ∧ (node.arrive 9).ring.dTail = []) ∧
    ((node.ring.port .u).state ≠ .down ∧ (node.ring.port .d).state ≠ .down) ∧
    ((passes f).ring.frame = some f ∧ f.phase ≠ .awaiting ∧ f.rx.length + 1 ≤ 13 + hdrPayload (f.rx.getD 0 0)) := by
  decide +kernel

theorem meets_FramesAreCutOrLost :
    let f := frame .cycle [1]
    let s := passes f { node with walker := { node.walker with state := .walking } }
    let whole := frame .reset (List.replicate 11 4)
    let x := passes f { node with ring := { node.ring with dTail := [{ gone := 230, words := [6, 7], times := [140, 170] }] } }
    (s.passing (s.ring.portU.lastSymbol + 200) f ∧ f.phase = .cycle ∧ f.lost = false ∧ s.resp.resetOrdered = false ∧
      s.walker.state = .walking ∧ f.tx.length < hdrPayload (f.rx.getD 0 0) + 23) ∧
    ((passes whole).passing 200 whole ∧ whole.phase = .reset ∧ whole.tx.length = hdrPayload (whole.rx.getD 0 0) + 23) ∧
    ((passes (frame .awaiting [])).passing 200 (frame .awaiting []) ∧ (frame .awaiting []).phase = .awaiting) ∧
    (x.ring.portD.state = .up ∧ (x.arrive 200).ring.frame = some f ∧ f.path = .outD ∧ (x.arrive 200).ring.back = none ∧
      (x.arrive 200).ring.counts.lost + (x.arrive 200).ring.dTail.length = 1 ∧ f.phase ≠ .awaiting ∧
      (let y : State := { x with ring := { x.ring with frame := none } }
       y.ring.portD.state = .up ∧ (y.arrive 200).ring.frame = none ∧ (y.arrive 200).ring.dTail.length = 1)) := by decide +kernel
/-- R113: Port D falls silent at 200 while an ended frame still goes out of it; the word that came at 170 has not left. -/
theorem test_port_d_loses_the_rest :
    let s := { node with ring := { node.ring with dTail := [{ gone := 230, words := [6, 7], times := [140, 170] }] } }
    let u := after (.portSilence .d) s
    u.ring.forwarded = some { path := .outD, words := [6] } ∧ u.ring.counts.lost = 1 := by decide +kernel
/-- The clauses of the same statement about a frame that goes out of Port U, and about the 16th bad symbol, early and late. -/
theorem meets_FramesAreCutOrLost_begun :
    let f : Frame := { frame .cycle [1] with path := .outU }
    let out : TxFrame := { returning := false, startAt := 5, leftAt := some 65, ended := none }
    let s (x w : Option TxFrame) : State := passes f { node with
      ring := { node.ring with portU := { node.ring.portU with badRun := 15 }, uSending := x, uWaiting := w } }
    let back : TxFrame := { returning := true, startAt := 40, leftAt := none, ended := none }
    let d := passes (frame .cycle [1]) (portU { node.ring.portU with badRun := 15 })
    (∀ w ∈ [none, some back], (s (some out) w).passing 90 f ∧ ((s (some out) w).arrive 90).ring.uSending = some out ∧
      ((s (some out) w).arrive 90).ring.uWaiting = w ∧ (s (some out) w).ring.portU.badRun + 1 = 16) ∧
    ((s none none).passing 90 f ∧ ((s none none).arrive 90).ring.uSending = none ∧ f.lost = false ∧ f.phase = .cycle) ∧
    (d.passing 9 (frame .cycle [1]) ∧ ¬ ((frame .cycle [1]).stamp + 60 ≤ 9) ∧ (frame .cycle [1]).stamp + 60 ≤ 90) := by decide +kernel
/-- R112: a frame turned back and cut at 90 goes out with the words that came by 30, and Port U's transmitter is free at once. -/
theorem test_cut_frame_is_closed_at_once :
    let f : Frame := { frame .cycle [1, 2] with path := .outU, times := List.replicate 14 5 ++ [31] }
    let s := passes f { node with
      ring := { node.ring with
        portU := { node.ring.portU with badRun := 15 }
        uSending := some { returning := false, startAt := 5, leftAt := some 65, ended := none } } }
    let u := after (.portSymbol 90 .u .bad) s
    u.ring.uSending = none ∧ u.ring.forwarded = some { path := .outU, words := f.tx.take 14 } := by decide +kernel
theorem meets_StartSymbolTakesAFrame :
    let f := frame .cycle [1]
    let loops := { node with ring := { node.ring with topology := .loop } }
    State.reset.ring.portU.state ≠ .up ∧ node.ring.portU.state = .up ∧ (node.arrive 9).ring.frame = none ∧
      loops.ring.pathNow = .outU ∧ (loops.arrive 9).ring.uDue = [] ∧ f.lost = false ∧ f.path = .outD ∧
      f.tx.length < hdrPayload (f.rx.getD 0 0) + 23 ∧ (passes f).passing 65 f ∧ f.stamp + 60 ≤ 65 ∧ ¬ (f.stamp + 60 ≤ 9) ∧
      (passes f).passing 9 f ∧ f.phase = .cycle ∧ (passes f).resp.resetOrdered = false := by decide +kernel
theorem meets_ReturningFramesShareTheTransmitter :
    let y (ret : Bool) : TxFrame := { returning := ret, startAt := 40, leftAt := none, ended := none }
    let x : TxFrame := { returning := false, startAt := 10, leftAt := some 70, ended := some 130 }
    let z := { x with ended := none }
    let b : ReturnFrame := { lost := false, words := [7], times := [42] }
    let out : TxFrame := { y true with leftAt := some 48 }
    let going (w : Option TxFrame) : State := { node with ring := { node.ring with back := some b, uSending := some out, uWaiting := w } }
    let s := { node with ring := { node.ring with uSending := some x, uWaiting := some (y true) } }
    (node.ring.portD.state = .up ∧ (node.arrive 9).ring.back = none ∧ node.ring.topology ≠ .loop ∧ (node.arrive 9).ring.uDue = [] ∧
      ({ node.ring with topology := .loop } : Ring).topology = .loop) ∧
    (({ node with ring := { node.ring with back := some b } } : State).arrive 9).ring.back = some b ∧
    (({ node with ring := { node.ring with back := some b } } : State).arrive 9).ring.uSending = none ∧
    (∀ w ∈ [none, some (y false)], ((going w).arrive 60).ring.back = some b ∧ ((going w).arrive 60).ring.uSending = some out ∧
      ((going w).arrive 60).ring.uWaiting = w) ∧
    (({ node.ring with uDue := [y true] } : Ring).uDue = [y true] ∧ ¬ (48 < 40 + 8) ∧ 47 < 40 + 8 ∧ 100 ≤ 40 + 60 ∧ ¬ (100 < 40 + 60) ∧
      z.ended = none ∧ (y true).returning = true ∧ (y false).returning = false ∧ (y false).ended = none ∧
      (passes (frame .cycle [])).ring.frame = some (frame .cycle [])) ∧
    (s.ring.uWaiting = some (y true) ∧ s.ring.uSending = some x ∧ s.ring.uDue = [] ∧ s.ring.dTail = [] ∧ x.leftAt = some 70 ∧
      x.ended = some 130 ∧ s.now ≤ 130 + (70 - 10) ∧ (y true).ended = none) := by decide +kernel
theorem meets_UnusableHeaderDoesNothing :
    let f := frame .awaiting []
    (passes f).passing 9 f ∧ f.phase = .awaiting ∧ f.rx = [] ∧ headerGood ((header 0 1 7 0).set 0 1) = false ∧
      headerGood (header 2 1 7 0) = true ∧ 2 ≤ hdrKind (header 2 1 7 0)[0] := by decide +kernel
theorem meets_ResetHeaderNumbersAndResets :
    let f := frame .awaiting []
    (passes f).passing 9 f ∧ f.phase = .awaiting ∧ f.rx = [] ∧ headerGood (header 1 1 7 62) = true ∧ hdrKind (header 1 1 7 62)[0] = 1 ∧
      (passes f).quiet ∧ ((passes f (chan0 .running)).status 0).state = .running ∧ ((chan0 .running).link 0).sending = none ∧
      ((passes f).status 0).state ≠ .running ∧ ((passes f).status 0).state ≠ .stopping := by decide +kernel
/-- The clauses of the same statement about an uncorrectable and a corrected state word. -/
theorem meets_ResetHeaderNumbersAndResets_words :
    let s (k : Flaw) : State := passes (frame .awaiting []) { node with
      svc := { node.svc with integ := { node.svc.integ with flaws := [((chanLoc 2 35).key, k)] } } }
    (∀ k ∈ [Flaw.single, .double], (s k).passing 9 (frame .awaiting []) ∧ (s k).svc.integ.flaws = [((chanLoc 2 35).key, k)]) ∧
      (s .double).svc.flawAt (chanLoc 2 35) = some .double ∧ (s .single).svc.flawAt (chanLoc 2 35) ≠ some .double := by decide +kernel
theorem meets_PassiveNodeOnlyTakesTheMark :
    let f := frame .awaiting []
    let s := passes f { node with ring := { node.ring with participation := .passive } }
    s.passing 9 f ∧ f.phase = .awaiting ∧ f.rx = [] ∧ headerGood (header 0 1 7 0) = true ∧ hdrKind (header 0 1 7 0)[0] = 0 ∧
      s.ring.participation = .passive ∧ (reqOf (header 0 1 7 0)).target ≠ s.ring.address := by decide +kernel
theorem meets_ActiveNodeRaisesItsAlertLines :
    let f := frame .awaiting []
    let s := passes f
    s.passing 9 f ∧ f.phase = .awaiting ∧ f.rx = [] ∧ headerGood (header 0 1 7 0) = true ∧ hdrKind (header 0 1 7 0)[0] = 0 ∧
      s.ring.participation = .active ∧ (reqOf (header 0 1 7 0)).target ≠ s.ring.address ∧ s.quiet ∧ s.walker.state ≠ .ready ∧
      f.lost = false ∧
      (let x := passes f { node with walker := { node.walker with state := .ready, len := 1 } }
       x.passing 9 f ∧ x.ring.participation = .active ∧ x.quiet ∧ x.walker.state = .ready) := by
  decide +kernel
theorem meets_MarkMovesTheNextBoundary :
    0 < ({} : Timebase).lenInUse ∧ ({} : Timebase).state = .free ∧ ({ state := .acquire } : Timebase).state ≠ .free := by decide
theorem meets_LockRunsDecideTheState :
    let b (st : TbState) (i o : Nat) : Timebase := { state := st, inRun := i, outRun := o }
    ((b .acquire 7 0).mark 25051 25060).2.2.natAbs ≤ 20 ∧ (b .acquire 7 0).inRun + 1 = 8 ∧ (b .acquire 6 0).inRun + 1 ≠ 8 ∧
    ¬ ((b .acquire 0 0).mark 25052 25060).2.2.natAbs ≤ 20 ∧ ((b .locked 0 3).mark 25051 25060).2.2.natAbs ≤ 20 ∧
    ¬ ((b .locked 0 3).mark 25052 25060).2.2.natAbs ≤ 20 ∧ (b .locked 0 3).outRun + 1 = 4 ∧ (b .locked 0 2).outRun + 1 ≠ 4 ∧
    (b .holdover 0 0).state = .holdover ∧ (b .holdover 0 0).inRun = 0 := by decide
/-- The clause of the same statement about the command. -/
theorem meets_LockRunsDecideTheState_header :
    let f := frame .awaiting []
    let s := passes f
    let h := header 0 1 7 0
    s.passing 9 f ∧ f.phase = .awaiting ∧ f.rx.isPrefixOf h.toList = true ∧ headerGood h = true ∧ hdrKind h[0] = 0 ∧
      (reqOf h).target ≠ s.ring.address ∧ s.quiet ∧ s.walker.state ≠ .ready ∧ s.tb.state = .free ∧
      (passes f locked).tb.state ≠ .free ∧
      (let x := passes f { node with walker := { node.walker with state := .ready, len := 1 } }
       x.passing 9 f ∧ x.quiet ∧ x.walker.state = .ready) := by decide +kernel
/-- A node in FREE with a frame whose mark jumps: channel 0 has an event of an earlier cycle, and of this one the last event before the
rescheduled boundary, 24 974, and the first at it. -/
def jumps : State := (passes (frame .awaiting [])).onHid 0 fun h => { h with events := [
  { j := 1, time := 24990, boundary := 7 }, { j := 0, time := 24973, boundary := 0 }, { j := 1, time := 24974, boundary := 0 }] }
/-- The clause of the same statement about a jump (R61). -/
theorem meets_LockRunsDecideTheState_jump :
    let f := frame .awaiting []
    let h := header 0 1 7 0
    jumps.passing 9 f ∧ f.rx.isPrefixOf h.toList = true ∧ headerGood h = true ∧ hdrKind h[0] = 0 ∧
      (reqOf h).target ≠ jumps.ring.address ∧ jumps.quiet ∧ jumps.tb.state = .free ∧ jumps.tb.lastBoundary = 0 := by decide +kernel
/-- R61: the boundary is rescheduled to the target, 26 ticks before tick 0, plus one cycle; only the event at it is dropped. -/
theorem test_jump_drops_events :
    let u := after (.headerCheck 9 (header 0 1 7 0)) jumps
    u.tb.nextBoundary = 24974 ∧ (u.hid 0).events = [{ j := 1, time := 24990, boundary := 7 }, { j := 0, time := 24973, boundary := 0 }] := by
  decide +kernel
/-- The node in a state of the walker with two entries, the second one at payload word 1. -/
def walking (e m : MapEntry) (len : Nat := 1) (st : WalkState := .walking) (f : Frame := frame .cycle []) : State :=
  passes f { node with walker := { node.walker with state := st, len := len, map := (node.walker.map.set 0 e).set 1 m } }
theorem meets_UnwalkedPayloadPassesAsReceived :
    let f := frame .cycle []
    let g := { f with active := false }
    let x := walking { action := .put, offset := 1 } {}
    (∀ y ∈ [f, g], (passes y).passing 9 y ∧ y.phase ≠ .awaiting ∧ y.lost = false ∧ y.area = [] ∧
      y.rx.length + [(7 : Word)].length ≤ 13 + hdrPayload (y.rx.getD 0 0)) ∧
    (passes f).walker.state ≠ .walking ∧ g.active = false ∧ x.passing 9 f ∧ x.walker.state = .walking ∧ 13 ≤ f.rx.length ∧
      ∀ k < [(7 : Word)].length, (x.walker.entry x.walker.cur).offset ≠ f.rx.length + k - 13 := by decide +kernel
theorem meets_AWalkBeginsAndJudgesItsEntries :
    let f := frame .awaiting []
    let h := header 0 1 7 0
    let s (e : MapEntry) (len : Nat) := walking e {} len .ready f
    let put : MapEntry := { action := .put }
    (∀ x ∈ [passes f, s put 0, s {} 1, s put 1], x.passing 9 f ∧ x.quiet ∧ x.ring.participation = .active ∧
      (reqOf h).target ≠ x.ring.address) ∧
    (f.phase = .awaiting ∧ f.rx.isPrefixOf h.toList = true ∧ headerGood h = true ∧ hdrKind h[0] = 0) ∧
    (passes f).walker.state ≠ .ready ∧ (s {} 0).walker.len = 0 ∧ (s {} 1).walker.state = .ready ∧
    ((s {} 1).walker.entry 0).action = .endWalk ∧ ((s put 1).walker.entry 0).action ≠ .endWalk ∧
    ((s put 1).walker.entry 0).offset < hdrPayload h[0] := by decide +kernel
/-- The clause of the same statement about a header that asks this node: a MAP_ENABLE at a DISABLED walker with a map, at an ACTIVE and a
PASSIVE node, and at a responder that waits. -/
theorem meets_AWalkBeginsAndJudgesItsEntries_asked :
    let f := frame .awaiting []
    let h := header 0 1 7 0 ([0x04250000, 0x00030000] ++ List.replicate 8 0)
    let s (p : Participation) (st : RespState) : State := passes f { node with
      ring := { node.ring with participation := p }
      walker := { node.walker with state := .disabled, len := 1 }
      resp := { node.resp with state := st, flight := if st = .waiting then some (rq 0 10 1 0 12) else none } }
    (∀ p ∈ [Participation.active, .passive], (s p .idle).passing 9 f ∧ (s p .idle).ring.participation = p ∧
      (s p .idle).takesNew (reqOf h) ∧ (s p .idle).walker.state = .disabled ∧ 0 < (s p .idle).walker.len) ∧
    (f.phase = .awaiting ∧ f.rx.isPrefixOf h.toList = true ∧ headerGood h = true ∧ hdrKind h[0] = 0 ∧ node.ring.address ≠ 0 ∧
      (reqOf h).target = node.ring.address ∧ WellFormed (.mapEnable 9 (reqOf h)) = true) ∧
    (s .active .waiting).passing 9 f ∧ (s .active .waiting).resp.state = .waiting := by decide +kernel
/-- The clauses of the same statement about one entry, and about what follows an entry. -/
theorem meets_AWalkBeginsAndJudgesItsEntries_entry :
    let put (off : Nat) : MapEntry := { action := .put, offset := off }
    let test (off : Nat) : MapEntry := { action := .skipUnless, offset := off, mask := 1 }
    let e (m : MapEntry) : MapEntry := (walking m {}).walker.entry 0
    let late : Walker := { (walking (put 0) {}).walker with pos := some 1 }
    let v : Services := { node.svc with integ := { node.svc.integ with flaws := [({ mem := .map, index := 5, word := 1 : Loc }.key, .double)] } }
    let done : Walker := { len := 2, executed := 128 }
    (walking {} {}).quiet ∧ (e {}).action = .endWalk ∧ (e (test 1023)).action = .skipUnless ∧ (e (test 1023)).offset = 1023 ∧
    BitVec.ofNat 16 7 &&& (e (test 1023)).mask ≠ (e (test 1023)).value ∧ BitVec.ofNat 16 6 &&& (e (test 1023)).mask = (e (test 1023)).value ∧
    ((e (put 1)).action ≠ .endWalk ∧ 1 ≤ (e (put 1)).offset) ∧ ((e (put 0)).offset < 1 ∧ late.pos = some 1 ∧ (late.entry 0).offset < 1) ∧
    (walking (put 0) {}).walker.pos = none ∧ v.flawAt { mem := .map, index := 5, word := 1 } = some .double ∧
    (done.len < 3 ∧ done.len ≤ 2 ∧ 1 < done.len ∧ done.limit ≤ done.executed ∧ 127 < done.limit) := by decide +kernel
theorem meets_PutAndTakeEntriesAct :
    let put : MapEntry := { action := .put, item := 11 }
    let next : MapEntry := { action := .take, offset := 1, item := 4 }
    let f : Frame := { frame .cycle [] with rx := (header 0 2 7 0).toList, tx := (header 0 2 7 0).toList }
    let s (len : Nat) (e : MapEntry) := walking e next len .walking f
    (∀ x ∈ [s 1 put, s 2 put, s 1 { put with action := .take, item := 0 }, s 1 { put with action := .takeNode, item := 0 },
        s 1 { put with action := .putNode, item := 0 }],
      x.passing 9 f ∧ x.walker.state = .walking ∧ x.quiet ∧ (x.walker.entry x.walker.cur).offset = f.rx.length - 13) ∧
    (f.phase = .cycle ∧ f.active = true ∧ f.lost = false ∧ 13 ≤ f.rx.length ∧ f.rx.length < 13 + hdrPayload (f.rx.getD 0 0)) ∧
    ((s 1 put).walker.cur + 1 = (s 1 put).walker.len ∧ ((s 1 put).walker.entry 0).action = .put) ∧
    (let w := (s 2 put).walker
     w.cur + 1 < w.len ∧ w.executed + 1 < w.limit ∧ (w.entry (w.cur + 1)).action ≠ .endWalk ∧ 0 < (w.entry (w.cur + 1)).offset ∧
       (w.entry (w.cur + 1)).offset < hdrPayload (f.rx.getD 0 0) ∧ (w.entry (w.cur + 1)).offset ≠ 1023) := by decide +kernel
/-- The clauses of the same statement about a test at a payload word, which the word 1 passes and the word 0 fails, and about two
entries at one word. -/
theorem meets_PutAndTakeEntriesAct_word :
    let put : MapEntry := { action := .put, item := 11 }
    let test : MapEntry := { action := .skipUnless, mask := 1, value := 1, skip := 2 }
    let f : Frame := { frame .cycle [] with rx := (header 0 2 7 0).toList, tx := (header 0 2 7 0).toList }
    let s (len : Nat) (e m : MapEntry) := walking e m len .walking f
    let take := { put with action := .take, item := 0 }
    (∀ x ∈ [s 1 test {}, s 3 test { put with offset := 1 }, s 2 put put, s 2 put take], x.passing 9 f ∧ x.walker.state = .walking ∧
      x.quiet ∧ (x.walker.entry x.walker.cur).offset = f.rx.length - 13 ∧ x.walker.executed + 1 < x.walker.limit) ∧
    (BitVec.setWidth 16 (1 : Word) &&& test.mask = test.value ∧ BitVec.setWidth 16 (0 : Word) &&& test.mask ≠ test.value) ∧
    ((s 1 test {}).walkTest 0 1 false).1 = false ∧ ((s 3 test { put with offset := 1 }).walkTest 0 1 false).1 = true ∧
    ((s 2 put take).walker.entry 1).action = .take ∧ ((s 2 put put).walker.cur + 2 = (s 2 put put).walker.len) := by decide +kernel
/-- A reply of eight words. -/
def reply8 : Reply := { addr := 1, tag := 9, status := .ok, count := 8, data := List.replicate 8 5 }
/-- The node with a frame at its reply area. -/
def atArea (p : Responder) : State := passes (frame .cycle [3]) { node with resp := p }
theorem meets_ReplyAreaCarriesTheReply :
    let f := frame .cycle [3]
    let s := atArea { ready := some reply8, state := .holding }
    let x := atArea { formed := some reply8 }
    let y := atArea { formed := some { reply8 with status := .busy, data := [], count := 0 } }
    let both := atArea { ready := some reply8, state := .holding, formed := some { reply8 with status := .busy } }
    (∀ z ∈ [s, x, y, atArea {}, both], z.passing 9 f) ∧
    (s.resp.state = .holding ∧ s.resp.formed = none ∧ both.resp.ready = some reply8 ∧ both.resp.formed.isSome = true) ∧
    (f.phase = .cycle ∧ f.lost = false ∧ f.area = [] ∧ f.rx.length = 13 + hdrPayload (f.rx.getD 0 0)) ∧
    field (Vector.replicate 9 (0 : Word))[0] 31 26 = 0 ∧ field (Vector.replicate 9 (0xFC000000 : Word))[0] 31 26 ≠ 0 ∧
    reply8.count ≤ 8 ∧ reply8.data.length = reply8.count ∧ s.resp.ready = some reply8 ∧ x.resp.ready = none ∧
    x.resp.formed = some reply8 ∧ reply8.status ≠ .busy ∧ (y.resp.formed.elim .ok Reply.status) = .busy ∧
    (atArea {}).resp.ready = none ∧ (atArea {}).resp.formed = none := by decide +kernel

/-- A frame whose frame check is still to come. -/
def beforeCheck (phase : HeaderPhase) : Frame := frame phase (List.replicate 10 0)
/-- A frame check word that is not the one computed. -/
theorem word_next_ne (x : Word) : x + 1 ≠ x := by bv_omega
theorem meets_GoodCheckCommitsTheTakes :
    let f := beforeCheck .cycle
    let s := passes f { node with walker := { node.walker with takes := { supply := some 9 } } }
    (s.passing 9 f ∧ f.phase = .cycle ∧ f.area = [] ∧ f.rx.length = f.payload + 22 ∧ f.lost = false ∧ f.tx.length = f.rx.length ∧
      s.resp.resetOrdered = false ∧ s.walker.takes ≠ {}) ∧
      frameCrc f.rx + 1 ≠ frameCrc f.rx := ⟨by decide +kernel, word_next_ne _⟩
/-- The clauses of the same statement about staged requests: a RUN of both of a pair, and a HALT of a channel without a partner. -/
theorem meets_GoodCheckCommitsTheTakes_requests :
    let f := beforeCheck .cycle
    let pair (role : Role) (q : Chan) (k : Channel) : Channel :=
      { k with record := { k.record with
          setup := { k.record.setup with role := role, partner := q }, status := { k.record.status with state := .ready } } }
    let staged (codes : List (Option (BitVec 4))) (s : State) : State := { s with walker := { s.walker with
      takes := { chan := Vector.ofFn fun i : Fin 8 => { request := codes.getD i.val none } } } }
    let reports (l : Link) : Link := { l with report := some report }
    let both := (((node.onChan 0 (pair .leader 1)).onChan 1 (pair .follower 0)).onLink 0 reports).onLink 1 reports
    let x := passes f (staged [some 2, some 2] both)
    let y := passes f (staged [some 3] (chan0 .running))
    (x.passing 9 f ∧ y.passing 9 f ∧ x.quiet ∧ y.quiet) ∧
    (∀ c ∈ [(0 : Chan), 1], x.walker.takes.chan[c].request = some 2 ∧ (x.status c).state = .ready ∧ (x.status c).latch ≠ .run ∧
      (x.link c).report = some report ∧ (x.rcd c).tuning.uMin ≤ report.u.toNat) ∧
    (x.partner 1 = some 0 ∧ (x.rcd 1).setup.role = .follower) ∧
    (y.walker.takes.chan[(0 : Chan)].request = some 3 ∧ (y.status 0).state = .running ∧ y.partner 0 = none) := by decide +kernel
theorem meets_BadCheckReachesNobody :
    let f := beforeCheck .reset
    let g := frame .cycle []
    let long := frame .cycle (List.replicate 13 6)
    ((passes f).passing 9 f ∧ f.phase = .reset ∧ f.lost = false ∧ f.area = [] ∧ f.tx.length = f.rx.length ∧
      f.rx.length = f.payload + 22 ∧ (passes f).resp.resetOrdered = false ∧ f.rx.length + 1 = hdrPayload (f.rx.getD 0 0) + 23 ∧
      (passes g).passing 9 g ∧ g.phase = .cycle ∧ g.phase ≠ .awaiting ∧ g.lost = false ∧
      g.tx.length < hdrPayload (g.rx.getD 0 0) + 23 ∧ g.rx.length + [(1 : Word)].length ≤ 13 + hdrPayload (g.rx.getD 0 0) ∧
      (passes long).passing 9 long ∧ hdrPayload (long.rx.getD 0 0) + 23 < long.tx.length) ∧
      frameCrc f.rx + 1 ≠ frameCrc f.rx :=
  ⟨by decide +kernel, word_next_ne _⟩
theorem meets_OrderedResetActsAtTheFrameEnd :
    let f := beforeCheck .cycle
    let s := passes f { node with resp := { resetOrdered := true } }
    s.passing 9 f ∧ f.phase = .cycle ∧ f.lost = false ∧ f.area = [] ∧ f.tx.length = f.rx.length ∧ f.rx.length = f.payload + 22 ∧
      s.resp.resetOrdered = true ∧ s.quiet ∧ (s.status 0).state ≠ .running ∧ (s.status 0).state ≠ .stopping ∧
      (∀ c : Chan, s.walker.takes.chan[c].request = none ∧
        (s.rcd c).setup.offset ≤ s.tb.cycleLen / (s.rcd c).setup.periods - 1) ∧
      (let x := passes f { chan0 .stopping with resp := { resetOrdered := true } }
       x.passing 9 f ∧ x.resp.resetOrdered = true ∧ x.quiet ∧ (x.status 0).state = .stopping ∧ (x.link 0).sending = none) := by
  decide +kernel
theorem meets_BoundarySchedulesTheNext :
    let out : DutyRecord :=
      { keepAlive := false, seq := 0, cmp := {}, gates := false, resetMark := false, ack := false, pass := none, endsAt := 96 }
    let busy := node.onLink 0 fun l => { l with sending := some out }
    node.quiet ∧ (node.status 0).state = .off ∧ (node.link 0).sending = none ∧ busy.quiet ∧ (busy.link 0).sending.isSome = true ∧
      ((chan0 .ready).status 0).state ≠ .off ∧ (chan0 .ready).quiet := by decide +kernel
theorem meets_BoundaryHandsOverSetpoints :
    let s := chan0 .running
    let r := chan0 .running fun r => { r with tuning := { r.tuning with missLimit := 1 } }
    let x := s.onHid 0 fun h => { h with fresh := true }
    s.quiet ∧ (s.hid 0).fresh = false ∧ (s.status 0).state = .running ∧ s.partner 0 = none ∧
      (s.rcd 0).tuning.missLimit < min ((s.status 0).missRun + 1) 255 ∧
      r.quiet ∧ (r.hid 0).fresh = false ∧ r.partner 0 = none ∧ min ((r.status 0).missRun + 1) 255 ≤ (r.rcd 0).tuning.missLimit ∧
      (node.status 0).state ≠ .running ∧ x.quiet ∧ (x.hid 0).fresh = true ∧
      (s.status 0).missRun = 0 ∧ s.svc.events.alert[EventClass.setpointMiss.place].enable = true := by decide +kernel
/-- The clauses of the same statement about a channel with a partner: one that goes on, and one that stops. -/
theorem meets_BoundaryHandsOverSetpoints_pair :
    let pair (role : Role) (q : Chan) (limit : Nat) (k : Channel) : Channel := { k with record := { k.record with
      setup := { k.record.setup with role := role, partner := q }, tuning := { k.record.tuning with missLimit := limit }
      status := { k.record.status with state := .running } } }
    let s (limit : Nat) := (node.onChan 0 (pair .leader 1 0)).onChan 1 (pair .follower 0 limit)
    (s 0).quiet ∧ (s 1).quiet ∧ (s 0).partner 0 = some 1 ∧ (s 1).partner 0 = some 1 ∧ ((s 1).status 0).state = .running ∧
      ((s 1).status 1).state = .running ∧ ((s 1).hid 1).fresh = false ∧ min (((s 1).status 1).missRun + 1) 255 = 1 ∧
      ((s 0).rcd 1).tuning.missLimit = 0 ∧ ((s 1).rcd 1).tuning.missLimit = 1 := by decide +kernel
theorem meets_BoundaryTestsForMarks :
    node.tb.state = .free ∧ locked.tb.state = .locked ∧ locked.tb.markNoted = false ∧ locked.tb.missRun + 1 ≠ 2 ∧
      ({ locked.tb with missRun := 1 } : Timebase).missRun + 1 = 2 ∧ ({ locked.tb with markNoted := true } : Timebase).markNoted = true ∧
      (let b : Timebase := { state := .holdover, holdCount := 3999 }; b.holdCount < 65535 ∧ b.holdCount + 1 ≤ b.holdLimit) ∧
      (let b : Timebase := { state := .holdover, holdCount := 4000 }; b.holdCount < 65535 ∧ b.holdLimit < b.holdCount + 1) := by
  decide
theorem meets_GrantsNeverExceedTheSupply :
    let s := { node with share := { node.share with enable := true } }
    let x := { chan0 .running fun r => { r with status := { r.status with fb := { p := 500 } } } with share := { s.share with supply := 5 } }
    s.quiet ∧ s.share.enable = true ∧ node.share.enable = false ∧ (∀ c : Chan, (s.rcd c).tuning.rank ≤ 3) ∧ x.quiet ∧
      x.share.enable = true ∧ x.share.restricted = false ∧ x.budget.share.restricted = true := by decide +kernel
theorem meets_AllocationServesRanksInOrder :
    let demand (r : Nat) : Nat := [2200, 300, 4000, 10].getD r 0
    let sum (n : Nat) : Nat := ((List.range n).map demand).sum
    sum 2 ≤ 2500 ∧ sum 2 ≤ 2600 ∧ 2600 < sum 3 ∧ 2600 < sum 3 ∧ sum 4 ≤ 6510 := by decide
/-- Channel 0 in a state with one period event to come. -/
def withEvent (st : ChanState) (f : Hidden → Hidden) : State :=
  (chan0 st).onHid 0 fun h => { f h with events := [{ j := 0, time := 30000, boundary := 25000 }] }
theorem meets_PeriodEventOpensTheWindow :
    let s := withEvent .ready id
    s.quiet ∧ (s.hid 0).events = [{ j := 0, time := 30000, boundary := 25000 }] ∧ (s.link 0).window = none ∧
      (s.status 0).state ≠ .calibrating ∧ (s.status 0).state ≠ .stopping ∧
      ((withEvent .calibrating id).status 0).state = .calibrating ∧ ((withEvent .stopping id).status 0).state = .stopping := by
  decide +kernel
theorem meets_PeriodLimitsEndCalibrationAndStop :
    let s := withEvent .calibrating fun h => { h with calPeriods := 256 }
    let x := withEvent .stopping id
    s.quiet ∧ (s.hid 0).events = [{ j := 0, time := 30000, boundary := 25000 }] ∧ (s.link 0).window = none ∧
      (s.status 0).state = .calibrating ∧ (s.hid 0).calPeriods = 256 ∧
      x.quiet ∧ (x.hid 0).events = [{ j := 0, time := 30000, boundary := 25000 }] ∧ (x.link 0).window = none ∧
      (x.status 0).state = .stopping ∧ (x.rcd 0).tuning.stopLimit ≤ (x.hid 0).stopPeriods + 1 := by decide +kernel
/-- Channel 0 in READY with its window open. -/
def withWindow : State := (chan0 .ready).onLink 0 fun l => { l with window := some window }
/-- A job in service of channel 1. -/
def service : Service :=
  { job := { chan := 1, period := 0, j := 0, time := 0, deadline := 9000, report := some report }, kind := .normal
    state0 := .running, blocked := false, left := false, rearmed := false, startedAt := 100, record := {}, hid := {}, leaderIq := none }
/-- The clause of PeriodEventOpensTheWindow about an event that finds a window open. -/
theorem meets_PeriodEventOpensTheWindow_open :
    let s := { (withEvent .ready id).onLink 0 (fun l => { l with window := some window }) with
      cu := { queue := [], service := some service } }
    s.quiet ∧ (s.hid 0).events = [{ j := 0, time := 30000, boundary := 25000 }] ∧ (s.link 0).window = some window ∧
      s.cu.service.isSome = true ∧ (∀ k ∈ s.cu.queue, k.chan ≠ 0) ∧ (s.status 0).state ≠ .calibrating ∧
      (s.status 0).state ≠ .stopping := by decide +kernel
theorem meets_WindowExpiryMakesAJob :
    let s := withWindow
    let runs := (chan0 .running fun r => { r with tuning := { r.tuning with degradedLimit := 1 } }).onLink 0 fun l =>
      { l with window := some window }
    let busy (s : State) (q : List Job) := { s with cu := { queue := q, service := some service } }
    let mine : Job := { service.job with chan := 0 }
    let short := s.onLink 0 fun l => { l with window := some { window with deadline := 249 } }
    (∀ x ∈ [s, runs, busy s [], busy s [mine], busy runs [mine]], x.quiet ∧ (x.link 0).window = some window) ∧
    (s.cu.service = none ∧ s.cu.queue = [] ∧ max s.now (window.time + (s.hid 0).effWindow) + 150 ≤ window.deadline ∧
      (s.status 0).state ≠ .running ∧ (s.status 0).state ≠ .stopping) ∧
    ((busy s []).cu.service.isSome = true ∧ (∀ k ∈ (busy s []).cu.queue, k.chan ≠ 0)) ∧
    ((busy runs [mine]).cu.queue = [mine] ∧ mine.chan = 0 ∧ ((busy runs [mine]).status 0).state = .running ∧
      min ((runs.status 0).degradedRun + 1) 255 ≤ (runs.rcd 0).tuning.degradedLimit ∧
      (s.rcd 0).tuning.degradedLimit < min ((runs.status 0).degradedRun + 1) 255) ∧
    ((short.link 0).window = some { window with deadline := 249 } ∧ (249 : Nat) < 100 + 150 ∧
      max short.now (window.time + (short.hid 0).effWindow) = 100) ∧
    (let lost := runs.onChan 0 fun k => { k with record := { k.record with status := { k.record.status with angleRun := 1 } } }
     runs.cu = { queue := [], service := none } ∧ (runs.status 0).state = .running ∧ runs.partner 0 = none ∧
       (runs.status 0).angleRun ≤ (runs.rcd 0).tuning.angleGrace ∧ lost.quiet ∧ (lost.link 0).window = some window ∧
       lost.cu.service = none ∧ lost.cu.queue = [] ∧ (lost.rcd 0).tuning.angleGrace < (lost.status 0).angleRun) := by decide +kernel
theorem meets_ReportsAreRouted :
    let s := { withWindow with cu := { queue := [], service := some service } }
    let other := { report with echo := 1 }
    let p : PassThrough := { req := { reg := 12, write := false, data := 0 }, started := true, timeout := 200000 }
    let waits := { (chan0 .ready).onLink 0 (fun l => { l with pass := some p, lastSync := .period }) with
      resp := { state := .waiting, flight := some (rq 0 10 1 0 12) } }
    (s.quiet ∧ (s.link 0).window = some window ∧ s.cu.service.isSome = true ∧ (∀ k ∈ s.cu.queue, k.chan ≠ 0)) ∧
    (true ≠ s.svc.integ.parity[(0 : Chan)] ∧ false = s.svc.integ.parity[(0 : Chan)] ∧ report.echo = window.expected ∧
      report.reply = none ∧ (s.link 0).waiver = false ∧ other.echo ≠ window.expected) ∧
    (let open_ (started : Bool) : State := { s.onLink 0 (fun l => { l with pass := some { p with started := started } }) with
       resp := waits.resp }
     ∀ b ∈ [true, false], ((open_ b).link 0).window = some window ∧ (open_ b).cu.service.isSome = true ∧
       (∀ k ∈ (open_ b).cu.queue, k.chan ≠ 0) ∧ ((open_ b).link 0).pass = some { p with started := b } ∧ p.req.reg = 12 ∧
       true ≠ (open_ b).svc.integ.parity[(0 : Chan)] ∧ (open_ b).resp.flight = some (rq 0 10 1 0 12)) ∧
    ((waits.link 0).window = none ∧ (waits.link 0).lastSync = .period ∧ (waits.link 0).pass = some p ∧ p.started = true ∧
      p.req.reg = 12 ∧ p.req.reg ≠ 13 ∧ waits.resp.flight = some (rq 0 10 1 0 12) ∧ (withWindow.link 1).pass = none) := by
  decide +kernel
/-- Channel 0 RUNNING with its window open and no voltage or temperature limit in the way. -/
def runWindow (f : Tuning → Tuning) (paired : Bool) : State :=
  let x := (chan0 .running fun r => { r with tuning := f { r.tuning with trip := 100, uMax := 100, tempLimit := 100 } }).onLink 0
    fun l => { l with window := some window }
  if paired then
    (x.onChan 0 fun k => { k with record := { k.record with setup := { k.record.setup with role := .leader, partner := 1 } } }).onChan 1
      fun k => { k with record := { k.record with
        setup := { k.record.setup with role := .follower, partner := 0 }, status := { k.record.status with state := .running } } }
  else x
theorem meets_FaultChecksStopAJob :
    let s := runWindow id false
    let p := runWindow id true
    (∀ x ∈ [s, p, runWindow (fun y => { y with uMin := 1 }) false, runWindow (fun y => { y with tempLimit := 0 }) false],
      x.quiet ∧ (x.link 0).window = some window ∧ x.cu = { queue := [], service := none } ∧ (x.status 0).state = .running ∧
        true ≠ x.svc.integ.parity[(0 : Chan)] ∧ max x.now 700 + 150 ≤ window.deadline) ∧
    (report.echo = window.expected ∧ report.reply = none ∧ report.wasReset = false ∧ report.desat = false ∧
      report.u.toNat ≤ (s.rcd 0).tuning.uMax ∧ report.temp.toInt ≤ (s.rcd 0).tuning.tempLimit) ∧
    (s.partner 0 = none ∧ p.partner 0 = some 1 ∧ (p.status 1).state = .running) ∧
    ((s.rcd 0).tuning.trip : Int) < (101 : Int) ∧ ¬ ((s.rcd 0).tuning.trip : Int) < (100 : Int) := by decide +kernel
/-- The clauses of the same statement about the other states, and about an uncorrectable word. -/
theorem meets_FaultChecksStopAJob_states :
    let s (st : ChanState) (k : StopKind) (m : List (Nat × Flaw)) : State :=
      let x := (runWindow (fun y => { y with tempLimit := 0 }) false).onChan 0 fun x => { x with
        record := { x.record with status := { x.record.status with state := st } }, hid := { x.hid with stopKind := k } }
      { x with svc := { x.svc with integ := { x.svc.integ with flaws := m } } }
    (∀ x ∈ [s .stopping .halt [], s .stopping .fault [], s .ready .none []], x.quiet ∧ (x.link 0).window = some window ∧
      x.cu = { queue := [], service := none } ∧ true ≠ x.svc.integ.parity[(0 : Chan)] ∧ max x.now 700 + 150 ≤ window.deadline) ∧
    (((s .ready .none []).status 0).state = .ready ∧ ((s .stopping .halt []).status 0).state = .stopping ∧
      ((s .stopping .halt []).hid 0).stopKind = .halt ∧ ((s .stopping .fault []).hid 0).stopKind ≠ .halt ∧
      ({ report with wasReset := true } : StageReport).wasReset = true ∧ ({ report with temp := 1 } : StageReport).temp.toInt = 1) ∧
    (∀ st ∈ [ChanState.faulted, .running], let x := s st .none [((chanLoc 0 67).key, .double)]
      x.svc.integ.flaws = [((chanLoc 0 (67 : Fin 68).val).key, .double)] ∧ x.svc.integ.kind = none ∧
        (x.link 0).window = some window ∧ x.cu = { queue := [], service := none } ∧ (x.status 0).state = st ∧ x.partner 0 = none) ∧
    (let y := (runWindow (fun y => { y with tempLimit := 0 }) true).onChan 0 fun k => { k with
       record := { k.record with status := { k.record.status with state := .stopping } }, hid := { k.hid with stopKind := .halt } }
     y.quiet ∧ (y.link 0).window = some window ∧ y.cu = { queue := [], service := none } ∧ true ≠ y.svc.integ.parity[(0 : Chan)] ∧
       max y.now 700 + 150 ≤ window.deadline ∧ (y.status 0).state = .stopping ∧ (y.hid 0).stopKind = .halt ∧ y.partner 0 = some 1 ∧ (y.status 1).state = .running ∧
       (y.rcd 0).tuning.tempLimit < ({ report with temp := 1 } : StageReport).temp.toInt) ∧
    (let x := s .ready .none [((chanLoc 0 35).key, .double)]
     x.svc.integ.flaws = [((chanLoc 0 (35 : Fin 68).val).key, .double)] ∧ x.svc.integ.kind = none ∧
       (x.link 0).window = some window ∧ x.cu = { queue := [], service := none } ∧ x.partner 0 = none) := by
  decide +kernel
theorem meets_PresenceAndTimersFollowTheLine :
    let p : PassThrough := { req := { reg := 1, write := false, data := 0 }, started := true, timeout := 200000 }
    let s := { (chan0 .ready).onLink 0 (fun l => { l with settling := .untilTick 9, pass := some p }) with
      resp := { state := .waiting, flight := some (rq 0 10 1 0 1) } }
    (s.link 0).present = true ∧ (s.link 0).settling = .untilTick 9 ∧ (s.link 0).pass = some p ∧
      s.resp.flight = some (rq 0 10 1 0 1) := by decide +kernel
/-- A record on the line. -/
def record0 : DutyRecord :=
  { keepAlive := false, seq := 255, cmp := {}, gates := false, resetMark := true, ack := false, pass := none, endsAt := 96 }
theorem meets_SentRecordFreesTheLine :
    let s (w : Option RecordSource) := (chan0 .ready).onLink 0 fun l => { l with sending := some record0, waiting := w }
    ((s none).link 0).sending = some record0 ∧ ((s none).link 0).waiting = none ∧ record0.resetMark = true ∧
      ((s none).link 0).resetWaiting = false ∧ ((s (some (.job {} true))).link 0).waiting = some (.job {} true) ∧
      ((s (some .gateOff)).link 0).waiting = some .gateOff ∧ ((s (some .keepAlive)).link 0).waiting = some .keepAlive ∧
      (s none).quiet ∧ ((s (some .gateOff)).link 0).pass = none ∧
      (let p : PassThrough := { req := { reg := 1, write := false, data := 0 }, started := false, timeout := 200000 }
       let x := (s (some .gateOff)).onLink 0 fun l => { l with pass := some p }
       (x.link 0).sending = some record0 ∧ (x.link 0).waiting = some .gateOff ∧ (x.link 0).pass = some p) ∧
      (record0.keepAlive = false ∧ ({ record0 with keepAlive := true } : DutyRecord).keepAlive = true ∧
       (((s none).onLink 0 fun l => { l with resetWaiting := true }).link 0).resetWaiting = true) := by decide +kernel
/-- R80, R83: the sync symbol behind a keep-alive is the last one then; behind another record it stays that of the period. -/
theorem test_sync_follows_keep_alive :
    let s (keep : Bool) := (chan0 .ready).onLink 0 fun l =>
      { l with sending := some { record0 with keepAlive := keep }, lastSync := .period }
    ((after (.stageRecordSent 0) (s true)).link 0).lastSync = .keepAlive ∧
      ((after (.stageRecordSent 0) (s false)).link 0).lastSync = .period := by decide +kernel
/-- Channel 1 RUNNING with its job in service. -/
def atService (v : Service) : State :=
  { node with
    channels := node.channels.set 1 { record := { status := { state := .running } } }
    cu := { queue := [], service := some v } }
theorem meets_NormalJobStoresItsResults :
    let stops := { service with state0 := .stopping }
    let s (st : ChanState) (v : Service) (held : List (List (Nat × Int))) := (atService v).onChan 1 fun k =>
      { k with held := held, record := { k.record with status := { k.record.status with state := st } } }
    (∀ x ∈ [s .running service [], s .running service [[(20, 7)], [(18, -5), (19, 4)]], s .running service [[(18, -5)]],
        s .stopping stops []],
      x.quiet ∧ x.svc.trace.state = .idle ∧ (x.link 1).sending = none ∧ x.cu.queue = []) ∧
    (service.kind = .normal ∧ service.blocked = false ∧ service.left = false ∧ service.job.chan = 1 ∧
      service.job.report = some report ∧ stops.state0 = .stopping) ∧
    ((s .running service []).cu.service = some service ∧ ((s .running service []).status 1).state = service.state0 ∧
      ((s .running service [[(20, 7)], [(18, -5)]]).chan 1).held = [[(20, 7)], [(18, -5)]]) ∧
    (let n := normalJob {} {} true 0 0 none report
     n.rampQ = 0 ∧ n.rampD = 0 ∧ n.fb.iq.natAbs ≤ 0) := by decide +kernel
theorem meets_JobsEndByTheirKind :
    let v := { service with blocked := true }
    let s := atService v
    let tr (st : TraceState) : Trace := { state := st, refChan := 1 }
    (s.cu = { queue := [], service := some v } ∧ v.blocked = true ∧ (s.chan v.job.chan).held = [] ∧ s.svc.trace.state = .idle) ∧
    ({ service with left := true }.left = true ∧ service.kind ≠ .measurement) ∧
    ((tr .armed).refChan = v.job.chan ∧ (tr .armed).state ≠ .idle ∧ (tr .armed).state ≠ .done) := by decide +kernel
/-- The clauses of the same statement about blind and measurement jobs. -/
theorem meets_JobsEndByTheirKind_kinds :
    let blind := { service with kind := .blind, job := { service.job with report := none } }
    let cal := { service with kind := .measurement, state0 := .calibrating }
    let s (lim : Nat) (samples : Nat) (st : ChanState) (v : Service) : State := { node with
      channels := node.channels.set 1 {
        record := { status := { state := st }, tuning := { degradedLimit := lim } }, hid := { calSamples := samples } }
      cu := { queue := [], service := some v } }
    (∀ x ∈ [s 0 0 .running blind, s 1 0 .stopping blind, s 0 63 .calibrating cal, s 0 62 .calibrating cal,
        s 0 0 .off { cal with left := true }, s 0 0 .calibrating { cal with rearmed := true }],
      x.quiet ∧ x.svc.trace.state = .idle ∧ (x.chan 1).held = [] ∧ (x.link 1).sending = none) ∧
    (blind.kind = .blind ∧ blind.blocked = false ∧ blind.left = false ∧ ((s 0 0 .running blind).status 1).state = .running ∧
      ((s 0 0 .running blind).rcd 1).tuning.degradedLimit < min (0 + 1) 255 ∧
      min (0 + 1) 255 ≤ ((s 1 0 .running blind).rcd 1).tuning.degradedLimit) ∧
    (cal.kind = .measurement ∧ cal.state0 = .calibrating ∧ (cal.job.report.filter fun p => !p.wasReset) = some report ∧
      ((s 0 63 .calibrating cal).hid 1).calSamples + 1 = 64 ∧ ((s 0 62 .calibrating cal).hid 1).calSamples + 1 ≠ 64 ∧
      ((0 + report.ia.toInt + 32) / 64).natAbs ≤ ((s 0 63 .calibrating cal).rcd 1).setup.offsetLimit ∧
      ({ cal with state0 := .ready } : Service).state0 ≠ .calibrating ∧ ((s 1 0 .stopping blind).status 1).state = .stopping ∧
      ((s 0 0 .running blind).partner 1 = none)) := by decide +kernel
/-- The queue of 3.6 at tick 870: the job in service completes, channel 3 has the deadline 950 and channel 4 one of `d`. -/
def queued (d : Nat) : State :=
  let run : Record := { status := { state := .running }, tuning := { degradedLimit := 1 } }
  let x := { node with channels := (node.channels.set 3 { record := run }).set 4 { record := run } }
  let j : Job := { service.job with chan := 3, report := none, deadline := 950 }
  { x with cu := {
      queue := [j, { j with chan := 4, deadline := d }]
      service := some { service with blocked := true, startedAt := 720, job := { service.job with chan := 2 } } } }
/-- The clauses of the same statement about a queue, at the last deadline that passes and the first that does not. -/
theorem meets_JobsEndByTheirKind_queue :
    let s := queued 1020
    let x := { s with now := 870, cu := {} }
    (∃ v ∈ s.cu.service, v.blocked = true ∧ max s.now (v.startedAt + 150) = 870 ∧ (s.chan v.job.chan).held = []) ∧
    (s.cu.queue.map Job.deadline = [950, 1020] ∧ 950 < x.now + 150 ∧ x.now + 150 ≤ 1020 ∧ 1019 < x.now + 150) ∧
    (x.quiet ∧ x.works 3 ∧ ¬ x.works 0 ∧ min ((x.status 3).degradedRun + 1) 255 ≤ (x.rcd 3).tuning.degradedLimit ∧
      (node.rcd 3).tuning.degradedLimit < min ((x.status 3).degradedRun + 1) 255 ∧ (x.link 3).sending = none ∧ x.partner 3 = none) ∧
    (x.works 4 ∧ (x.status 4).angleRun ≤ (x.rcd 4).tuning.angleGrace ∧ (x.status 4).state ≠ .ready) := by decide +kernel
/-- The fault checks find nothing in a report of a RUNNING channel within its limits, and in none of a channel with its gates off. -/
theorem meets_JobsEndByTheirKind_checks :
    (runWindow id false).checksPass { service.job with chan := 0 } ∧ node.checksPass service.job := by
  refine ⟨⟨fun _ h => absurd h (by decide), fun _ r h => ?_, fun h => absurd h (by decide +kernel)⟩,
    ⟨fun h => absurd h (by decide +kernel), fun h => absurd h (by decide +kernel), fun h => absurd h (by decide +kernel)⟩⟩
  obtain rfl : report = r := Option.some.inj h
  decide +kernel
/-- 3.6, worked sequence at 870: channel 3 is abandoned, its degraded run count rises to 1, and channel 4 is taken; it is abandoned too
with a deadline one tick before 1 020. -/
theorem test_queue_heads :
    let u := after .jobComplete (queued 6250)
    (u.chan 3).counts.abandoned = 1 ∧ (u.status 3).degradedRun = 1 ∧ u.cu.queue = [] ∧
      u.cu.service.map (fun v => (v.job.chan, v.kind, v.startedAt)) = some (4, .blind, 870) ∧
      ((after .jobComplete (queued 1020)).cu.service.isSome = true ∧ (after .jobComplete (queued 1019)).cu = {}) := by decide +kernel
theorem meets_NormalJobStaysInItsLimits :
    ({ accD := 2147418112, accQ := -2147418112 } : Status).accD.natAbs ≤ 2147418112 ∧ (-2147418112 : Int).natAbs ≤ 2147418112 := by
  decide
theorem meets_NodeCommandsAct :
    (∀ k ∈ [1, 2, 3, 4, 5, 8, 9, 10, 11], node.takesNew (cmd k)) ∧
    WellFormed (.clearCounters 3 (cmd 1)) = true ∧ WellFormed (.nodeReset 3 (cmd 2)) = true ∧ WellFormed (.mapEnable 3 (cmd 3)) = true ∧
    WellFormed (.mapDisable 3 (cmd 4)) = true ∧ WellFormed (.syncClear 3 (cmd 5)) = true ∧ WellFormed (.traceStop 3 (cmd 10)) = true ∧
    WellFormed (.integrityClear 3 (cmd 11)) = true ∧ WellFormed (.traceArm 3 (cmd 8)) = true ∧
    WellFormed (.traceTrigger 3 (cmd 9)) = true ∧ node.svc.trace.state = .idle ∧
    ({ state := .armed } : Trace).state ≠ .idle ∧ ({ state := .armed } : Trace).state ≠ .done := by decide +kernel
theorem meets_ClearEventsEmptiesThePendingSet :
    WellFormed (.clearEvents 3 (cmd 0)) = true ∧ node.takesNew (cmd 0) ∧
      node.svc.flawAt { mem := .alert, index := EventClass.linkChange.number, word := 0 } = none ∧
      node.svc.events.alert[EventClass.linkChange.place].enable = true := by decide +kernel
theorem meets_StageResetIsTakenAtRest :
    WellFormed (.stageReset 3 (cmd 6)) = true ∧ node.takesNew (cmd 6) ∧ node.quiet ∧ (cmd 6).index.toNat = (0 : Chan).val ∧
      (node.status 0).state = .off ∧ ((chan0 .running).status 0).state ≠ .off ∧ ((chan0 .running).status 0).state ≠ .faulted ∧
      (chan0 .running).takesNew (cmd 6) ∧ node.takesNew (cmd 6 8) ∧ 7 < (cmd 6 8).index.toNat := by decide +kernel
theorem meets_ArmEntersCalibratingOrIsRefused :
    let s := chan0 .off
    let r := cmd 7 0 1
    let p := s.tb.cycleLen / (s.rcd 0).setup.periods
    let bad (f : Record → Record) (n : Nat) : Prop :=
      ((chan0 .off f).rcd 0).setup.periods = n ∧ ¬ (2000 ≤ (chan0 .off f).tb.cycleLen / n ∧ (chan0 .off f).tb.cycleLen / n ≤ 20000)
    WellFormed (.arm 3 r) = true ∧ s.takesNew r ∧ s.quiet ∧ r.index.toNat = (0 : Chan).val ∧ (s.status 0).state = .off ∧
      s.tb.state = .locked ∧ (s.link 0).present = true ∧ (s.link 0).settling = .none ∧ 2000 ≤ p ∧ p ≤ 20000 ∧
      (s.rcd 0).setup.role = .none ∧ node.tb.state ≠ .locked ∧ (locked.link 0).present ≠ true ∧
      ((s.onLink 0 Link.orderReset).link 0).settling ≠ .none ∧
      bad (fun r => { r with setup := { r.setup with periods := 16 } }) 16 ∧
      (let x := chan0 .off fun r => { r with setup := { r.setup with role := .leader } }
       (x.rcd 0).setup.role ≠ .none ∧ (x.partner 0).isSome ≠ true) := by decide +kernel
/-- The clause of the same statement about an uncorrectable word. -/
theorem meets_ArmEntersCalibratingOrIsRefused_words :
    let r := cmd 7 0 1
    ∀ w : Fin 6, let s : State := { chan0 .off with
      svc := { node.svc with integ := { node.svc.integ with flaws := [((chanLoc 0 w.val).key, .double)] } } }
    WellFormed (.arm 3 r) = true ∧ s.takesNew r ∧ s.svc.integ.flaws = [((chanLoc 0 w.val).key, .double)] ∧ s.svc.integ.kind = none ∧
      r.index.toNat = (0 : Chan).val ∧ (s.status 0).state = .off ∧ s.tb.state = .locked ∧ (s.link 0).present = true ∧
      (s.link 0).settling = .none ∧ 2000 ≤ s.tb.cycleLen / (s.rcd 0).setup.periods ∧
      s.tb.cycleLen / (s.rcd 0).setup.periods ≤ 20000 ∧ (s.rcd 0).setup.role = .none := by decide +kernel
/-- Channel 0 in READY with a report of some voltage, a follower of channel 1 if asked. -/
def readyWith (uMin : Nat) (follows : Bool) : State :=
  let x := chan0 .ready fun r =>
    { r with
      tuning := { r.tuning with uMin := uMin }
      setup := { r.setup with role := if follows then .follower else .none, partner := 1 } }
  (x.onChan 1 fun k => { k with record := { k.record with setup := { k.record.setup with role := .leader, partner := 0 } } }).onLink 0
    fun l => { l with report := some report }
theorem meets_RunEntersRunning :
    let s := readyWith 0 false
    let r := cmd 7 0 2
    WellFormed (.run 3 r) = true ∧ s.takesNew r ∧ s.quiet ∧ r.index.toNat = (0 : Chan).val ∧ (s.status 0).state = .ready ∧
      (s.status 0).latch ≠ .run ∧ (s.link 0).report = some report ∧ (s.rcd 0).tuning.uMin ≤ report.u.toNat ∧
      (s.rcd 0).setup.role ≠ .follower ∧ report.u.toNat < ((readyWith 1 false).rcd 0).tuning.uMin ∧
      ((readyWith 0 true).rcd 0).setup.role = .follower ∧ (readyWith 0 true).partner 0 = some 1 ∧
      ((readyWith 0 true).status 1).state ≠ .running := by decide +kernel
/-- Channel 0 RUNNING and leading channel 1, which is RUNNING. -/
def leading : State :=
  (chan0 .running fun r => { r with setup := { r.setup with role := .leader, partner := 1 } }).onChan 1 fun k =>
    { k with record := { k.record with
        setup := { k.record.setup with role := .follower, partner := 0 }, status := { k.record.status with state := .running } } }
theorem meets_HaltStopsTheChannel :
    let r := cmd 7 0 3
    WellFormed (.halt 3 r) = true ∧ leading.takesNew r ∧ leading.quiet ∧ r.index.toNat = (0 : Chan).val ∧
      (leading.status 0).state = .running ∧ leading.partner 0 = some 1 ∧ (leading.rcd 0).setup.role = .leader ∧
      (leading.status 1).state = .running := by decide +kernel
theorem meets_OffReachesOff :
    let r := cmd 7 0 4
    WellFormed (.off 3 r) = true ∧ leading.takesNew r ∧ leading.quiet ∧ r.index.toNat = (0 : Chan).val ∧
      (leading.status 0).state ≠ .off ∧ (leading.status 0).state ≠ .faulted ∧ (leading.link 0).sending = none ∧
      leading.partner 0 = some 1 ∧ (leading.rcd 0).setup.role = .leader ∧ (leading.status 1).state = .running ∧
      ((chan0 .ready).status 0).state ≠ .running ∧ ((chan0 .ready).status 0).state ≠ .stopping ∧
      (let x := { leading with cu := { queue := [], service := some { service with job := { service.job with chan := 0 } } } }
       x.takesNew r ∧ x.quiet ∧ (x.status 0).state = .running ∧ x.cu.service.isSome = true) := by decide +kernel
theorem meets_ClearLeavesFaulted :
    let r := cmd 7 0 5
    let s := chan0 .faulted
    let x := s.onLink 0 fun l => { l with report := some { report with desat := true } }
    WellFormed (.clear 3 r) = true ∧ s.takesNew r ∧ s.quiet ∧ r.index.toNat = (0 : Chan).val ∧ (s.status 0).state = .faulted ∧
      (s.link 0).report = none ∧ x.takesNew r ∧ (x.status 0).state = .faulted ∧
      (x.link 0).report = some { report with desat := true } := by decide +kernel
theorem meets_CodeWithoutEntryOnlyLatches :
    (∀ d ∈ [0, 1, 2, 3, 4, 5, 15], node.takesNew (cmd 7 0 (BitVec.ofNat 32 d))) ∧ node.quiet ∧
    (cmd 7 0 15).index.toNat = (0 : Chan).val ∧ WellFormed (.noneRequest 3 (cmd 7 0 15)) = true ∧
    WellFormed (.arm 3 (cmd 7 0 1)) = true ∧ ((chan0 .ready).status 0).state ≠ .off ∧ WellFormed (.run 3 (cmd 7 0 2)) = true ∧
    (node.status 0).state ≠ .ready ∧ WellFormed (.halt 3 (cmd 7 0 3)) = true ∧ (node.status 0).state ≠ .running ∧
    WellFormed (.off 3 (cmd 7 0 4)) = true ∧ (node.status 0).state = .off ∧ WellFormed (.clear 3 (cmd 7 0 5)) = true ∧
    (node.status 0).state ≠ .faulted := by decide +kernel
theorem meets_NodeAndShareWritesStore :
    node.takesNew (rq 1 0 2 0 1) ∧ (rq 1 0 2 0 1).index = 0 ∧ WellFormed (.nodeWrite 3 (rq 1 0 2 0 1)) = true ∧
    (∀ w, names (rq 1 0 2 0 1) w → w = 1 ∨ w = 2) ∧ names (rq 1 0 1 0 8) 8 ∧ (8 : Nat) + 1 ≤ 9 ∧
    node.takesNew (rq 1 5 3 0 0) ∧ WellFormed (.shareWrite 3 (rq 1 5 3 0 0)) = true ∧
    (∀ w, names (rq 1 5 3 0 0) w → w ≤ 2) ∧ names (rq 1 5 2 0 2) 3 := by
  refine ⟨by decide, by decide, by decide, ?_, by decide, by decide, by decide, by decide, ?_, by decide⟩
  · intro w h
    have := named_words (lo := 1) (n := 2) (by decide) (by decide) h
    omega
  · intro w h
    have := named_words (lo := 0) (n := 3) (by decide) (by decide) h
    omega
theorem meets_TimebaseWritesStore :
    WellFormed (.timebaseWrite 3 (rq 1 6 6 0 1)) = true ∧ node.takesNew (rq 1 6 6 0 1) ∧ node.quiet ∧ (rq 1 6 6 0 1).index = 0 ∧
    (∀ w, names (rq 1 6 6 0 1) w → 1 ≤ w ∧ w ≤ 6) ∧ (∀ c : Chan, (node.status c).state = .off) ∧
    names (rq 1 6 1 0 0) 0 ∧ names (rq 1 6 1 0 1) 1 ∧ ((chan0 .ready).status 0).state ≠ .off := by
  refine ⟨by decide, by decide, by decide, by decide, ?_, by decide, by decide, by decide, by decide⟩
  intro w h
  have := named_words (lo := 1) (n := 6) (by decide) (by decide) h
  omega
theorem meets_MapWritesStore :
    node.takesNew (rq 1 2 2 127 0) ∧ node.quiet ∧ 0 < (rq 1 2 2 127 0).count.toNat ∧ node.walker.state = .disabled ∧
    WellFormed (.mapWrite 3 (rq 1 2 2 127 0)) = true ∧ (rq 1 2 2 127 0).index.toNat = (127 : Fin 128).val ∧
    (rq 1 2 2 127 0).word.toNat + (rq 1 2 2 127 0).count.toNat ≤ 2 ∧ ¬ names (rq 1 2 1 127 1) 0 ∧
    node.takesNew (rq 1 3 2 0 1) ∧ WellFormed (.mapControlWrite 3 (rq 1 3 2 0 1)) = true ∧ (rq 1 3 2 0 1).index = 0 ∧
    (∀ w, names (rq 1 3 2 0 1) w → w = 1 ∨ w = 2) ∧ names (rq 1 3 1 0 4) 4 := by
  refine ⟨by decide, by decide, by decide, by decide, by decide, by decide, by decide, by decide, by decide, by decide, by decide, ?_,
    by decide⟩
  intro w h
  have := named_words (lo := 1) (n := 2) (by decide) (by decide) h
  omega
theorem meets_AlertIntegrityAndTraceWritesStore :
    node.takesNew (rq 1 4 2 16 0) ∧ node.quiet ∧ WellFormed (.alertWrite 3 (rq 1 4 2 16 0)) = true ∧
    (rq 1 4 2 16 0).index.toNat = (15 : Fin 16).val + 1 ∧ (∀ w, names (rq 1 4 2 16 0) w → w ≤ 1) ∧ names (rq 1 4 1 16 2) 2 ∧
    node.takesNew (rq 1 7 3 0 6) ∧ WellFormed (.integrityWrite 3 (rq 1 7 3 0 6)) = true ∧ (rq 1 7 3 0 6).index = 0 ∧
    (∀ w, names (rq 1 7 3 0 6) w → 6 ≤ w ∧ w ≤ 8) ∧ names (rq 1 7 1 0 5) 5 := by
  refine ⟨by decide, by decide, by decide, by decide, ?_, by decide, by decide, by decide, by decide, ?_, by decide⟩
  · intro w h
    have := named_words (lo := 0) (n := 2) (by decide) (by decide) h
    omega
  · intro w h
    have := named_words (lo := 6) (n := 3) (by decide) (by decide) h
    omega
/-- The second clause of the same statement. -/
theorem meets_AlertIntegrityAndTraceWritesStore_trace :
    WellFormed (.traceWrite 3 (rq 1 8 8 0 7)) = true ∧ node.takesNew (rq 1 8 8 0 7) ∧ (rq 1 8 8 0 7).index = 0 ∧
    (∀ w, names (rq 1 8 8 0 7) w → 1 ≤ w ∧ w ≤ 14) ∧ node.svc.trace.state = .idle ∧ names (rq 1 8 1 0 16) 16 ∧
    (rq 1 8 1 0 16).word.toNat + (rq 1 8 1 0 16).count.toNat ≤ 17 ∧ 0 < (rq 1 8 1 0 16).count.toNat := by
  refine ⟨by decide, by decide, by decide, ?_, by decide, by decide, by decide, by decide⟩
  intro w h
  have := named_words (lo := 7) (n := 8) (by decide) (by decide) h
  omega
theorem meets_ChannelWritesStore :
    let r := rq 1 1 8 0 0
    WellFormed (.channelWrite 3 r) = true ∧ node.takesNew r ∧ node.quiet ∧ r.index.toNat = (0 : Chan).val ∧
    r.word.toNat + r.count.toNat ≤ 68 ∧ 0 < r.count.toNat ∧ (node.status 0).state = .off ∧ (¬ ∃ w, names r w ∧ 35 ≤ w) ∧
    node.cu.service = none ∧ (node.chan 0).held = [] ∧ names (rq 1 1 1 0 67) 67 ∧ ((chan0 .ready).status 0).state ≠ .off ∧
    (let x := { node with cu := { queue := [], service := some { service with job := { service.job with chan := 0 } } } }
     x.takesNew r ∧ x.cu.service.elim 1 (fun v => v.job.chan) = 0) ∧
    (node.rcd 0).putAll [(20, 7)] = { node.rcd 0 with tuning := { (node.rcd 0).tuning with idLim := 7 } } := by
  refine ⟨by decide, by decide, by decide, by decide, by decide, by decide, by decide, ?_, by decide, by decide, by decide, by decide,
    by decide, by decide⟩
  rintro ⟨w, h, hw⟩
  have := named_words (lo := 0) (n := 8) (by decide) (by decide) h
  omega
theorem meets_StageAccessIsPassedThrough :
    node.takesNew (rq 0 10 1 0 255) ∧ WellFormed (.stageRead 3 (rq 0 10 1 0 255)) = true ∧
    WellFormed (.stageWrite 3 (rq 1 10 1 0 255)) = true ∧ (rq 0 10 1 0 255).index.toNat = (0 : Chan).val ∧
    (rq 0 10 1 0 255).count = 1 ∧ ((chan0 .ready).link 0).present = true ∧ (node.link 0).present = false ∧
    7 < (rq 0 10 1 8 0).index.toNat ∧ 1 < (rq 0 10 2 0 0).count.toNat ∧
    WellFormed (.stageRead 3 (rq 0 10 0 7 0)) = true ∧ (rq 0 10 0 7 0).index.toNat ≤ 7 ∧ (rq 0 10 0 7 0).count = 0 ∧
    node.takesNew (rq 0 10 0 7 0) := by decide +kernel
theorem meets_WriteIsItsTablesWrite :
    node.takesNew (rq 1 9 1 8 23) ∧ (rq 1 9 1 8 23).kind.toNat = 1 ∧ (rq 1 9 1 8 23).table.toNat = 9 ∧
    (rq 1 9 1 8 23).index.toNat ≤ 8 ∧ 0 < (rq 1 9 1 8 23).count.toNat ∧
    (rq 1 9 1 8 23).word.toNat + (rq 1 9 1 8 23).count.toNat ≤ 24 ∧ (rq 1 9 0 8 23).count = 0 ∧
    10 < (rq 1 11 1 0 0).table.toNat ∧ 8 < (rq 1 9 1 9 0).index.toNat ∧
    (∀ k ∈ [0, 1, 2, 3, 4, 5, 6, 7, 8, 10], (rq 1 k 1 0 0).table.toNat = k ∧ node.takesNew (rq 1 k 1 0 0)) := by decide +kernel
theorem meets_ReadReturnsTheWords :
    let r := rq 0 1 1 0 35
    let s := { node with svc := { node.svc with integ := { node.svc.integ with flaws := [(35, .double)] } } }
    WellFormed (.read 3 r) = true ∧ node.takesNew r ∧ 0 < r.count.toNat ∧ tableIndexOk r.table.toNat r.index.toNat = true ∧
    r.word.toNat + r.count.toNat ≤ tableWords r.table.toNat r.index.toNat ∧ node.quiet ∧ s.takesNew r ∧
    r.table.toNat = 1 ∧ r.index.toNat = (0 : Chan).val ∧ r.word.toNat = 35 ∧ r.count = 1 ∧
    s.svc.flawAt { mem := .channel, index := 0, word := 35 } = some .double ∧
    s.svc.flawAt { mem := .alert, index := 1, word := 0 } = none ∧ MapControlInRange node := by decide +kernel
theorem meets_ChecksAndStoresMendWords :
    let r := rq 0 1 1 0 35
    let s := { node with svc := { node.svc with integ := { node.svc.integ with flaws := [(35, .single)] } } }
    let x := { node.svc.integ with kind := some Flaw.double }
    (WellFormed (.read 3 r) = true ∧ s.takesNew r ∧ r.table.toNat = 1 ∧ r.index.toNat = (0 : Chan).val ∧ r.word.toNat = 35 ∧
      r.count = 1 ∧ FlawsCanonical s ∧ s.svc.flawAt { mem := .channel, index := 0, word := 35 } = some .single ∧
      s.svc.flawAt { mem := .alert, index := 14, word := 0 } = none) ∧
    (WellFormed (.noneRequest 3 (cmd 7 0 15)) = true ∧ node.takesNew (cmd 7 0 15) ∧ (cmd 7 0 15).index.toNat = (0 : Chan).val ∧
      x.flaws = [] ∧ x.kind = some .double ∧ x.target = .channel ∧ node.svc.integ.kind = none) ∧
    (Memory.wf s.svc.integ.flaws = true ∧ s.svc.integ.kind = none ∧ Memory.wf x.flaws = true ∧ x.kind = some .double ∧
      (chanLoc 0 41).mem = x.target ∧ (mapLoc 0 0).mem ≠ x.target ∧ (chanLoc 0 42).key ≠ (chanLoc 0 41).key) := by decide +kernel
theorem meets_EventVectorTakesTheHighestClass :
    let r := rq 3 0 0 0 0
    let p : Pending := { detail := { w0 := 0, w1 := 0 }, count := 1 }
    let e := { node.svc.events with pending := node.svc.events.pending.set 15 (some p) }
    WellFormed (.vectorEvent 3 r) = true ∧ node.takesNew r ∧ (∀ i : Fin 16, node.svc.events.pending[i] = none) ∧
    e.pending[(15 : Fin 16)] = some p ∧ (∀ k : Fin 16, k < 15 → e.pending[k] = none) := by decide +kernel
theorem meets_ResetCausesAreReadOnce :
    let r := rq 3 0 0 1 0
    WellFormed (.vectorReset 3 r) = true ∧ node.takesNew r ∧ node.svc.events.causePowerOn = true ∧
    WellFormed (.clearEvents 3 (cmd 0)) = true ∧ ({ state := .waiting } : Responder).state ≠ .idle ∧
    (({ memory := some (memoryKey r, reply8) } : Responder).repeated r).isSome = true := by decide +kernel
/-- One more clause of the same statement: a command that is neither VECTOR(RESET) nor a header answers a next state. -/
theorem meets_ResetCausesAreReadOnce_kept :
    node.svc.events.causePowerOn = true ∧ exec .jobComplete node = .next node ∧ (∀ t r, Instr.jobComplete ≠ .vectorReset t r) := by
  refine ⟨by decide, rfl, ?_⟩
  intro t r h
  cases h
theorem meets_FetchReturnsTheOldest :
    let r := rq 4 0 0 0 0
    WellFormed (.fetch 3 r) = true ∧ node.takesNew r ∧ node.quiet ∧ r.index = 0 ∧ node.svc.trace.state ≠ .done ∧
    (rq 4 0 0 1 0).index ≠ 0 ∧ ({ state := .done } : Trace).state = .done ∧ ({ state := .done } : Trace).entries = [] := by
  decide +kernel
theorem meets_CapturesFollowTheTrigger :
    let t (st : TraceState) (post : Nat) : Trace := { state := st, pre := 1, post := post, source := .rising, laneQty := Vector.replicate 4 14
                                                      level := 32767, prevLane := some 5 }
    let s (x : Trace) : State := { node with svc := { node.svc with trace := x } }
    let ev : Trace := { state := .armed, source := .event, trigClass := EventClass.number .channelFault }
    (s (t .armed 1)).quiet ∧ ((s (t .armed 1)).status ((t .armed 1).laneChan[0])).grant = 32767 ∧
    ((t .armed 1).prevLane = some 5 ∧ (t .armed 1).source = .rising ∧ (5 : Int) < (t .armed 1).level ∧ (t .armed 1).level ≤ 32767) ∧
    ((t .armed 1).post = 1 ∧ (t .filling 2).post ≠ 1 ∧ (t .filling 2).state = .filling) ∧
    ({ t .armed 1 with source := .command } : Trace).source ≠ .rising ∧
    ((t .post 1).state = .post ∧ (t .post 1).postDone + 1 = (t .post 1).post ∧ (t .post 2).postDone + 1 ≠ (t .post 2).post) ∧
    ((s ev).quiet ∧ ev.state = .armed ∧ ev.source = .event ∧ ev.trigClass = EventClass.channelFault.number) ∧
    (let v := { service with kind := .blind, job := { service.job with report := none } }
     let x := atService v
     let y := { x with svc := { x.svc with trace := { ev with refChan := 1 } } }
     y.quiet ∧ y.cu = { queue := [], service := some v } ∧ v.kind = .blind ∧ v.blocked = false ∧ v.left = false ∧
       (y.status 1).state = .running ∧ (y.rcd 1).tuning.degradedLimit < min ((y.status 1).degradedRun + 1) 255 ∧
       (y.chan 1).held = [] ∧ y.svc.trace.refChan = v.job.chan ∧ y.svc.trace.trigClass = 2) := by decide +kernel
theorem meets_UntakenRequestsActOnNothing :
    let r := rq 4 0 9 0 0
    let i : Instr := .fetch 3 r
    requestRow i = some (3, r) ∧ WellFormed i = true ∧ State.reset.ring.address = 0 ∧ node.ring.address ≠ 0 ∧
    r.target = node.ring.address ∧ ({ state := .waiting } : Responder).state = .waiting ∧
    ({ state := .holding } : Responder).state = .holding ∧
    ({ memory := some (memoryKey r, reply8) } : Responder).repeated r = some reply8 ∧
    node.resp.state = .idle ∧ node.resp.repeated r = none ∧ 8 < r.count.toNat := by decide +kernel
theorem meets_FlawsStayCanonical :
    let s := { node with svc := { node.svc with integ := { node.svc.integ with flaws := [(35, .double), (65536, .single)] } } }
    FlawsCanonical s ∧ step s = .next { s with now := 1 } := ⟨by decide, rfl⟩
theorem meets_BlocksStayConsistent :
    let s := { locked with resp := { state := .holding, ready := some reply8 }, walker := { node.walker with len := 128, limit := 1 } }
    let x := passes { frame .cycle [3, 5] with area := List.replicate 8 7 } s
    ResponderAgrees x ∧ MapControlInRange x ∧ LockRunAtRest x ∧ step x = .next { x with now := 1 } := ⟨by decide, by decide, by decide, rfl⟩
/-- The channels, the queue and the recorder of the same witness: a fault stop with a job that counts, a FAULTED channel, and a capture. -/
theorem meets_BlocksStayConsistent_channels :
    let x := chan0 .stopping fun r => { r with status := { r.status with fault := .overtemp, idFw := -5 } }
    let y := (x.onChan 0 fun k => { k with held := [[(18, -3)]], hid := { k.hid with stopKind := .fault } }).onChan 1 fun k =>
      { k with record := { k.record with status := { k.record.status with state := .faulted, fault := .stageReset } } }
    let j (c : Chan) : Job := { service.job with chan := c }
    let s := { y with
      cu := { queue := [j 0, j 1], service := some { service with job := j 0, state0 := .stopping, kind := .normal } }
      svc := { y.svc with trace := { y.svc.trace with
        state := .post, pre := 3, post := 4, postDone := 2, entries := List.replicate 5 { w0 := 0, w1 := 0, w2 := 0 } } } }
    ChannelsAgree s ∧ OneQueuedJob s ∧ TraceInRange s := by
  refine ⟨⟨by decide +kernel, fun v h => ?_⟩, by decide +kernel, by decide +kernel⟩
  cases h
  decide +kernel
/-- The frame of the same witness, inside its reply area, agrees with where it stands. -/
theorem meets_BlocksStayConsistent_frame : FrameAgrees (passes { frame .cycle [3, 5] with area := List.replicate 8 7 }) := by
  intro f h
  cases h
  decide +kernel

end Sys2Proof.Tests
end

section
/-! SUPPORT. What a request code that acts on a channel can change: the channel itself, the partner it stops, and in each of them no
delivered value, no tuning, no pair and no latch (R7, R8, R15). -/

namespace Sys2Proof.Machine

open Sys2Proof

/-! ### What no action changes -/

/-- A channel with everything blanked that the action of a request code can change in it: what is left are the words and hidden items
that no request code touches, the latch among them. -/
def Channel.unacted (x : Channel) : Channel :=
  { x with
    record := { x.record with setup := { x.record.setup with offset := 0 }, status := { latch := x.record.status.latch } }
    hid := { iqIn := x.hid.iqIn, idIn := x.hid.idIn, vdIn := x.hid.vdIn, vqIn := x.hid.vqIn, fresh := x.hid.fresh } }

/-- Equal blanked channels agree in the latch, in the values a commit delivers, and in what a pair and a RUN depend on. -/
theorem Channel.unacted_inj_iff (x y : Channel) : x.unacted = y.unacted ↔
    { x.record.setup with offset := 0 } = { y.record.setup with offset := 0 } ∧ x.record.tuning = y.record.tuning ∧
      x.record.status.latch = y.record.status.latch ∧
      (x.hid.iqIn = y.hid.iqIn ∧ x.hid.idIn = y.hid.idIn ∧ x.hid.vdIn = y.hid.vdIn ∧ x.hid.vqIn = y.hid.vqIn ∧
        x.hid.fresh = y.hid.fresh) ∧ x.held = y.held ∧ x.counts = y.counts := by
  simp only [Channel.unacted, Channel.mk.injEq, Record.mk.injEq, Status.mk.injEq, Hidden.mk.injEq]
  tauto

theorem Channel.pairing_of_unacted {x y : Channel} (h : x.unacted = y.unacted) : x.record.pairing = y.record.pairing := by
  have hs := ((Channel.unacted_inj_iff x y).mp h).1
  simp only [Setup.mk.injEq] at hs
  simp [Record.pairing, hs]

/-- The valid pairs depend on the pairings of the channels alone (R23). -/
theorem State.partner_congr {s u : State} (h : ∀ d, (u.rcd d).pairing = (s.rcd d).pairing) (c : Chan) : u.partner c = s.partner c := by
  simp only [State.partner, h]

theorem State.partner_of_unacted {s u : State} (h : ∀ d, (u.chan d).unacted = (s.chan d).unacted) (c : Chan) :
    u.partner c = s.partner c := State.partner_congr (fun d => Channel.pairing_of_unacted (h d)) c

/-- The partner's partner is the channel itself (R23). -/
theorem State.partner_symm {s : State} {c d : Chan} (h : s.partner c = some d) : s.partner d = some c := by
  simp only [State.partner, pairValid, Option.ite_none_right_eq_some, Option.some.injEq, decide_eq_true_eq] at h ⊢
  obtain ⟨⟨hne, hback, hroles⟩, rfl⟩ := h
  rw [hback]
  exact ⟨⟨hne.symm, rfl, by tauto⟩, rfl⟩

theorem State.partner_ne {s : State} {c d : Chan} (h : s.partner c = some d) : d ≠ c := by
  simp only [State.partner, pairValid, Option.ite_none_right_eq_some, Option.some.injEq, decide_eq_true_eq] at h
  obtain ⟨⟨hne, -, -⟩, rfl⟩ := h
  exact hne

/-- Of a valid pair exactly one channel is the follower (R23). -/
theorem State.leader_of_partner_follower {s : State} {c d : Chan} (h : s.partner c = some d)
    (hf : (s.rcd c).setup.role = .follower) : (s.rcd d).setup.role = .leader := by
  simp only [State.partner, pairValid, Option.ite_none_right_eq_some, Option.some.injEq, decide_eq_true_eq, Record.pairing, hf] at h
  obtain ⟨⟨-, -, hroles⟩, rfl⟩ := h
  simpa using hroles

/-! ### Acting on some channels -/

/-- A projection of one channel that an update keeps is kept in every channel. -/
theorem State.proj_onChan {α : Type} (g : Channel → α) (s : State) (c d : Chan) (f : Channel → Channel)
    (h : g (f (s.chan c)) = g (s.chan c)) : g ((s.onChan c f).chan d) = g (s.chan d) := by
  by_cases e : c = d
  · subst e; simpa using h
  · rw [s.chan_onChan_ne e]

/-- From `s` to `u` the actions of request codes took place in the listed channels: no channel changed in what no action changes, no
protected word became bad, and with none bad no other channel and no other link changed. -/
structure State.ActedOn (s : State) (l : List Chan) (u : State) : Prop where
  unacted : ∀ d, (u.chan d).unacted = (s.chan d).unacted
  quiet : s.quiet → u.quiet
  others : s.quiet → ∀ d, d ∉ l → u.chan d = s.chan d ∧ u.link d = s.link d

namespace State.ActedOn

variable {s u v : State} {l m : List Chan} {c : Chan}

theorem trans (h : s.ActedOn l u) (k : u.ActedOn l v) : s.ActedOn l v where
  unacted d := (k.unacted d).trans (h.unacted d)
  quiet hq := k.quiet (h.quiet hq)
  others hq d hd :=
    have ⟨hc, hk⟩ := h.others hq d hd
    have ⟨hc', hk'⟩ := k.others (h.quiet hq) d hd
    ⟨hc'.trans hc, hk'.trans hk⟩

theorem mono (h : s.ActedOn l u) (hl : l ⊆ m) : s.ActedOn m u :=
  ⟨h.unacted, h.quiet, fun hq d hd => h.others hq d fun e => hd (hl e)⟩

/-- Only the channels, the links and the services matter. -/
theorem congr (h : s.ActedOn l u) (hc : v.channels = u.channels) (hl : v.links = u.links) (hs : v.svc = u.svc) : s.ActedOn l v where
  unacted d := by simpa only [State.chan, hc] using h.unacted d
  quiet hq := by simpa only [State.quiet, hs] using h.quiet hq
  others hq d hd := by simpa only [State.chan, State.link, hc, hl] using h.others hq d hd

/-- An operation that touches neither channels nor links. -/
theorem of_same (hc : u.channels = s.channels) (hl : u.links = s.links) (hq : s.quiet → u.quiet) : s.ActedOn l u where
  unacted d := by simp [State.chan, hc]
  quiet := hq
  others _ d _ := by simp [State.chan, State.link, hc, hl]

theorem refl : s.ActedOn l s := of_same rfl rfl id

theorem onChan (c : Chan) (f : Channel → Channel) (h : ∀ x, (f x).unacted = x.unacted) : s.ActedOn [c] (s.onChan c f) where
  unacted d := s.proj_onChan Channel.unacted c d f (h _)
  quiet := id
  others _ d hd := ⟨s.chan_onChan_ne (by simpa [eq_comm] using hd) f, rfl⟩

theorem onHid (c : Chan) (f : Hidden → Hidden) (h : ∀ x : Channel, { x with hid := f x.hid }.unacted = x.unacted) :
    s.ActedOn [c] (s.onHid c f) := onChan c _ h

theorem onLink (c : Chan) (f : Link → Link) : s.ActedOn [c] (s.onLink c f) where
  unacted _ := rfl
  quiet := id
  others _ d hd := ⟨rfl, s.link_onLink_ne (by simpa [eq_comm] using hd) f⟩

theorem raise (k : EventClass) (d : Detail) : s.ActedOn l (s.raise k d) :=
  of_same rfl rfl fun hq => by rw [s.raise_of_no_flaw k d hq.1]; exact hq

theorem check (x : Loc) : s.ActedOn l (s.check x).2 :=
  of_same rfl rfl fun hq => by rw [s.check_of_no_flaw x hq.1]; exact hq

theorem checkEach (ls : List Loc) : s.ActedOn l (s.checkEach ls).2 :=
  of_same (by simp) (by simp) fun hq => by rw [s.checkEach_of_no_flaw hq.1 ls]; exact hq

theorem readState (c : Chan) : s.ActedOn l (s.readState c).2 := check _

theorem readPair (c : Chan) (asks : Role → Bool) : s.ActedOn l (s.readPair c asks).2 :=
  of_same (by simp) (by simp) fun hq => by rw [s.readPair_of_quiet c asks hq]; exact hq

theorem readAck (c : Chan) : s.ActedOn l (s.readAck c).2 := by
  unfold State.readAck
  split
  · exact readState c
  · exact refl

theorem storeRecord (c : Chan) (ws : List Nat) (f : Record → Record)
    (h : ∀ x : Channel, { x with record := f x.record }.unacted = x.unacted) : s.ActedOn [c] (s.storeRecord c ws f) where
  unacted := (onChan c (fun x => { x with record := f x.record }) h).unacted
  quiet hq := by rw [s.storeRecord_of_quiet c ws f hq]; exact hq
  others hq d hd := by rw [s.storeRecord_of_quiet c ws f hq]; exact (onChan c _ h).others hq d hd

theorem storeStatus (c : Chan) (ws : List Nat) (f : Status → Status) (h : ∀ x, (f x).latch = x.latch) :
    s.ActedOn [c] (s.storeStatus c ws f) := storeRecord c ws _ fun x => by simp [Channel.unacted, h]

theorem enterState (c : Chan) (st : ChanState) (ws : List Nat) (f : Status → Status) (h : ∀ x, (f x).latch = x.latch) :
    s.ActedOn [c] (s.enterState c st ws f) :=
  (storeStatus c ws (fun x => { f x with state := st }) h).congr rfl rfl rfl

theorem startRecord (c : Chan) (src : RecordSource) : s.ActedOn [c] (s.startRecord c src) :=
  (readAck c).trans (onLink c _)

theorem gateOff (c : Chan) : s.ActedOn [c] (s.gateOff c) := by
  unfold State.gateOff State.handRecord
  split
  · exact startRecord c _
  · exact onLink c _

theorem enterStopping (c : Chan) (k : StopKind) (code : FaultCode) : s.ActedOn [c] (s.enterStopping c k code) :=
  (enterState c .stopping _ (fun x => { x with fault := code }) fun _ => rfl).trans (onHid c _ fun _ => rfl)

end State.ActedOn

/-! ### The partner (R15, R24) -/

/-- A channel and its partner, if its pair is valid. -/
def State.pairOf (s : State) (c : Chan) : List Chan := c :: (s.partner c).toList

/-- No protected word being bad, the partner a rule learns is the partner of the valid pair (R23). -/
theorem State.partner_of_readPair {s : State} {c q : Chan} {asks : Role → Bool} (h : s.quiet)
    (hr : (s.readPair c asks).1.partner = some q) : s.partner c = some q := by
  rw [s.readPair_of_quiet c asks h] at hr
  exact (Option.ite_none_right_eq_some.mp hr).2

/-- A channel's leaving RUNNING reads some words and stops at most one channel, which, no protected word being bad, is the partner of its
valid pair (R15). -/
theorem State.leaderLeft_cases (s : State) (c : Chan) : ∃ x, s.ActedOn [] x ∧
    (s.leaderLeft c = x ∨ ∃ q, s.leaderLeft c = x.enterStopping q .halt .none ∧ (s.quiet → s.partner c = some q)) := by
  have read : s.ActedOn [] (s.readPair c fun r => decide (r = .leader)).2 := .readPair c _
  unfold State.leaderLeft State.onPartner
  dsimp only
  split
  · rename_i q hpartner
    refine ⟨_, read.trans (.readState q), ?_⟩
    split
    · exact .inr ⟨q, rfl, fun h => State.partner_of_readPair h hpartner⟩
    · exact .inl rfl
  · exact ⟨_, read, .inl rfl⟩

theorem State.ActedOn.leaderLeft {s : State} (c : Chan) : s.ActedOn (s.pairOf c) (s.leaderLeft c) := by
  obtain ⟨x, hx, e | ⟨q, e, hp⟩⟩ := s.leaderLeft_cases c <;> rw [e]
  · exact hx.mono (List.nil_subset _)
  · have hs := (hx.mono (List.nil_subset [q])).trans (enterStopping q .halt .none)
    exact ⟨hs.unacted, hs.quiet, fun hq d hd => hs.others hq d (by simp_all [State.pairOf])⟩

/-! ### The actions of the request codes (R9 to R17) -/

section Actions

variable {s : State} (c : Chan)

theorem State.ActedOn.reject (r : RejectReason) : s.ActedOn [c] (s.reject c r) := raise _ _

theorem State.ActedOn.armPairFails : s.ActedOn [c] (s.armPairFails c).2 := by
  unfold State.armPairFails
  extract_lets a x b
  have own : s.ActedOn [c] a.2 := checkEach _
  have both : s.ActedOn [c] b.2 := own.trans (checkEach _)
  split
  · dsimp only; exact own
  · split
    · dsimp only; exact own
    · dsimp only; exact both

theorem State.ActedOn.armReason : s.ActedOn [c] (s.armReason c).2 := by
  have read : s.ActedOn [c] (s.check (chanLoc c 0)).2 := check _
  have pair : s.ActedOn [c] ((s.check (chanLoc c 0)).2.armPairFails c).2 := read.trans (armPairFails c)
  unfold State.armReason
  dsimp only
  (repeat' split)
  · exact refl
  · exact refl
  · exact refl
  · exact read
  · exact pair
  · exact pair

theorem State.ActedOn.enterCalibrating : s.ActedOn [c] (s.enterCalibrating c) := by
  unfold State.enterCalibrating
  extract_lets r src q read x n p off window s1 s2 s3
  have hr : s.ActedOn [c] r.2 := checkEach _
  have hq : s.ActedOn [c] q := by
    unfold q
    split
    · exact hr
    · exact hr.congr rfl rfl rfl
  have h1 : q.ActedOn [c] s1 := by
    unfold s1
    split
    · exact storeRecord c _ _ fun _ => rfl
    · exact storeStatus c _ _ fun _ => rfl
  have h2 : s1.ActedOn [c] s2 := onHid c _ fun _ => rfl
  have h3 : s2.ActedOn [c] s3 := onLink c _
  have h : s.ActedOn [c] s2 := (hq.trans h1).trans h2
  exact (h.trans h3).congr rfl rfl rfl

theorem State.ActedOn.actArm : s.ActedOn [c] (s.actArm c) := by
  unfold State.actArm
  dsimp only
  split
  · exact (armReason c).trans (reject c _)
  · exact (armReason c).trans (enterCalibrating c)

theorem State.ActedOn.runReason : s.ActedOn [c] (s.runReason c).2 := by
  have read : s.ActedOn [c] (s.check (chanLoc c 24)).2 := check _
  unfold State.runReason
  dsimp only
  split
  · exact refl
  · split
    · exact read
    · have pair := read.trans (readPair c fun x => decide (x = .follower))
      split
      · exact pair.trans (readState _)
      · exact pair

theorem State.ActedOn.enterRunning : s.ActedOn [c] (s.enterRunning c) :=
  (enterState c .running _ Status.toRunning fun _ => rfl).trans (onHid c _ fun _ => rfl)

theorem State.ActedOn.actRun : s.ActedOn [c] (s.actRun c) := by
  unfold State.actRun
  dsimp only
  split
  · exact (runReason c).trans (reject c _)
  · exact (runReason c).trans (enterRunning c)

/-- A channel that has acted and then leaves RUNNING reaches its partner of before (R15): no action changes a pair. -/
theorem State.ActedOn.thenLeaderLeft {u : State} (h : s.ActedOn [c] u) : s.ActedOn (s.pairOf c) (u.leaderLeft c) := by
  have hp : u.pairOf c = s.pairOf c := by rw [State.pairOf, State.partner_of_unacted h.unacted, State.pairOf]
  exact (h.mono (by simp [State.pairOf])).trans (hp ▸ leaderLeft c)

theorem State.ActedOn.actHalt : s.ActedOn (s.pairOf c) (s.actHalt c) := (enterStopping c .halt .none).thenLeaderLeft c

theorem State.ActedOn.enterOff (old : ChanState) : s.ActedOn (s.pairOf c) (s.enterOff c old) := by
  unfold State.enterOff
  extract_lets s1 s2 s3 cu s4
  have h1 : s.ActedOn [c] s1 :=
    (enterState c .off _ (fun x => { x.clearLoop with fault := .none }) fun _ => rfl).trans (onHid c _ fun _ => rfl)
  have h2 : s1.ActedOn [c] s2 := by
    unfold s2
    split
    · exact gateOff c
    · exact refl
  have h3 : s2.ActedOn [c] s3 := onLink c _
  have h4 : s.ActedOn [c] s4 :=
    ((h1.trans h2).trans h3).congr rfl rfl rfl
  split
  · exact h4.thenLeaderLeft c
  · exact h4.mono (by simp [State.pairOf])

theorem State.ActedOn.actClear : s.ActedOn (s.pairOf c) (s.actClear c) := by
  unfold State.actClear
  dsimp only
  split
  · exact enterOff c _
  · split
    · exact checkEach _
    · have hp : (s.checkEach (clearLocs c)).2.pairOf c = s.pairOf c := by
        rw [State.pairOf, State.partner_of_unacted (checkEach (l := []) _).unacted, State.pairOf]
      exact (checkEach _).trans (hp ▸ enterOff c _)

/-- A code that acts on a channel reaches the channel and its partner alone (R7). -/
theorem State.ActedOn.actCode (code old : RequestCode) (st : ChanState) : s.ActedOn (s.pairOf c) (s.actCode c code old st) := by
  have own : [c] ⊆ s.pairOf c := by simp [State.pairOf]
  unfold State.actCode
  split
  · exact (actArm c).mono own
  · split
    · exact refl
    · exact (actRun c).mono own
  · exact actHalt c
  · exact enterOff c _
  · exact enterOff c _
  · exact enterOff c _
  · exact enterOff c _
  · exact actClear c
  · exact refl

end Actions

/-! ### A code written into the latch (R7) -/

section Latch

variable (s : State) (c : Chan) (code : RequestCode)

/-- No protected word being bad, a code stands in the latch and acts against the state and the latch as they were held (R7). -/
theorem State.writeLatch_of_quiet (h : s.quiet) :
    s.writeLatch c code = (s.latched c code).actCode c code (s.status c).latch (s.status c).state := by
  unfold State.writeLatch
  rw [s.checkEach_of_no_flaw h.1]
  dsimp only
  rw [s.storeStatus_of_quiet c _ _ h]
  rfl

/-- Whatever words are bad, a code written changes only its channel's latch in what no action changes. -/
theorem State.writeLatch_unacted (d : Chan) :
    ((s.writeLatch c code).chan d).unacted = ((s.latched c code).chan d).unacted := by
  unfold State.writeLatch
  extract_lets r st old
  have hr : r.2.channels = s.channels := (State.checkEach_keeps _ s).2.2.2.2.1
  rw [(State.ActedOn.actCode c code old st).unacted d]
  simp only [State.chan, State.storeStatus, State.storeRecord, State.latched, State.onChan, hr]

@[simp] theorem State.partner_latched (d : Chan) : (s.latched c code).partner d = s.partner d :=
  State.partner_congr (fun e => s.proj_onChan (fun x => x.record.pairing) c e _ rfl) d

theorem State.writeLatch_quiet (h : s.quiet) : (s.writeLatch c code).quiet := by
  rw [s.writeLatch_of_quiet c code h]
  exact (State.ActedOn.actCode c code _ _).quiet h

/-- No protected word being bad, a code written reaches the channel and its partner alone (R7, R15). -/
theorem State.writeLatch_others (h : s.quiet) {d : Chan} (hd : d ≠ c) (hp : s.partner c ≠ some d) :
    (s.writeLatch c code).chan d = s.chan d ∧ (s.writeLatch c code).link d = s.link d := by
  rw [s.writeLatch_of_quiet c code h]
  have hl := (State.ActedOn.actCode (s := s.latched c code) c code (s.status c).latch (s.status c).state).others h d
    (by simp [State.pairOf, hd, hp])
  exact ⟨hl.1.trans (s.chan_onChan_ne hd.symm _), hl.2⟩

end Latch

/-! ### HALT and RUN (R13 to R15) -/

section HaltAndRun

variable {s : State} {c : Chan}

@[simp] theorem State.chan_enterState (st : ChanState) (ws : List Nat) (f : Status → Status) :
    (s.enterState c st ws f).chan c =
      { s.chan c with record := { (s.chan c).record with status := { f (s.status c) with state := st } } } :=
  s.chan_onChan c fun x => { x with record := { x.record with status := { f x.record.status with state := st } } }

theorem State.enterStopping_stops (k : StopKind) (code : FaultCode) :
    ((s.enterStopping c k code).status c).state = .stopping ∧ ((s.enterStopping c k code).hid c).stopKind = k := by
  simp [State.enterStopping, State.onHid, State.status, State.rcd, State.hid]

theorem State.enterRunning_runs : ((s.enterRunning c).status c).state = .running := by
  simp [State.enterRunning, State.onHid, State.status, State.rcd]

/-- A channel without a partner leaves RUNNING alone (R15). -/
theorem State.leaderLeft_chan_of_no_partner (h : s.quiet) (hp : s.partner c = none) (d : Chan) : (s.leaderLeft c).chan d = s.chan d := by
  obtain ⟨x, hx, e | ⟨q, -, hq⟩⟩ := s.leaderLeft_cases c
  · rw [e]; exact (hx.others h d (by simp)).1
  · simp [hq h] at hp

/-- A HALT stops a RUNNING channel with the kind HALT (R15). -/
theorem State.writeLatch_halt (h : s.quiet) (hr : (s.status c).state = .running) (hp : s.partner c = none) :
    ((s.writeLatch c .halt).status c).state = .stopping ∧ ((s.writeLatch c .halt).hid c).stopKind = .halt := by
  have hs := State.ActedOn.enterStopping (s := s.latched c .halt) c .halt .none
  have hc : (s.writeLatch c .halt).chan c = ((s.latched c .halt).enterStopping c .halt .none).chan c := by
    rw [s.writeLatch_of_quiet c _ h, hr]
    exact State.leaderLeft_chan_of_no_partner (hs.quiet h) (by rw [State.partner_of_unacted hs.unacted, s.partner_latched, hp]) c
  simp only [State.status, State.rcd, State.hid, hc]
  exact State.enterStopping_stops .halt .none

/-- A channel is READY, no RUN stands in its latch, and its latest valid report shows at least u_min: what a RUN of a channel that is no
follower asks for (R7, R13). -/
def State.canRun (s : State) (c : Chan) : Prop :=
  (s.status c).state = .ready ∧ (s.status c).latch ≠ .run ∧
    ∃ rep, (s.link c).report = some rep ∧ (s.rcd c).tuning.uMin ≤ rep.u.toNat

theorem State.canRun_congr {u : State} (hc : u.chan c = s.chan c) (hl : u.link c = s.link c) : u.canRun c ↔ s.canRun c := by
  simp only [State.canRun, State.status, State.rcd, hc, hl]

/-- No condition of RUN fails for a channel that can run, whose leader, if it is a follower, is RUNNING (R13). -/
theorem State.runReason_none {rep : StageReport} (h : s.quiet) (hrep : (s.link c).report = some rep)
    (hu : (s.rcd c).tuning.uMin ≤ rep.u.toNat)
    (hf : (s.rcd c).setup.role = .follower → ∀ q, s.partner c = some q → (s.status q).state = .running) :
    s.runReason c = (none, s) := by
  unfold State.runReason
  simp only [hrep, s.check_of_no_flaw _ h.1, orZero, if_true, Int.ofNat_lt, Nat.not_lt.mpr hu, if_false, s.readPair_of_quiet c _ h]
  by_cases hr : (s.rcd c).setup.role = .follower
  · rcases hp : s.partner c with _ | q
    · simp [hr]
    · simp [hr, State.readState, s.check_of_no_flaw _ h.1, takenState, hf hr q hp]
  · simp [hr]

/-- A RUN starts a channel that can run, whose leader, if it is a follower, is RUNNING (R13, R14), and reaches no other channel. -/
theorem State.writeLatch_run (h : s.quiet) (hc : s.canRun c)
    (hf : (s.rcd c).setup.role = .follower → ∀ q, s.partner c = some q → (s.status q).state = .running) :
    ((s.writeLatch c .run).status c).state = .running ∧
      ∀ d, d ≠ c → (s.writeLatch c .run).chan d = s.chan d ∧ (s.writeLatch c .run).link d = s.link d := by
  obtain ⟨hst, hne, rep, hrep, hu⟩ := hc
  have hk : ((s.latched c .run).rcd c).tuning = (s.rcd c).tuning ∧ ((s.latched c .run).rcd c).setup = (s.rcd c).setup := by
    simp [State.latched, State.rcd]
  have hs (q : Chan) : ((s.latched c .run).status q).state = (s.status q).state :=
    s.proj_onChan (fun x => x.record.status.state) c q _ rfl
  have hn : (s.latched c .run).runReason c = (none, s.latched c .run) :=
    State.runReason_none h hrep (by rw [hk.1]; exact hu) fun hr q hq => by
      rw [hs q]
      exact hf (hk.2 ▸ hr) q (by simpa using hq)
  have he : s.writeLatch c .run = (s.latched c .run).enterRunning c := by
    rw [s.writeLatch_of_quiet c _ h, hst]
    simp [State.actCode, hne, State.actRun, hn]
  rw [he]
  refine ⟨State.enterRunning_runs, fun d hd => ?_⟩
  have hl := (State.ActedOn.enterRunning (s := s.latched c .run) c).others h d (by simpa using hd)
  exact ⟨hl.1.trans (s.chan_onChan_ne hd.symm _), hl.2⟩

end HaltAndRun

end Sys2Proof.Machine
end

section
/-! SUPPORT. The order of the request codes of one commit (R8): every channel once, a leader before its follower. -/

namespace Sys2Proof.Machine

open Sys2Proof

/-- A channel put at the end of an order unless it stands in it. -/
def addNew (l : List Chan) (c : Chan) : List Chan := if c ∈ l then l else l ++ [c]

theorem addNew_of_notMem {l : List Chan} {c : Chan} (h : c ∉ l) : addNew l c = l ++ [c] := if_neg h

theorem mem_addNew {l : List Chan} {c d : Chan} : d ∈ addNew l c ↔ d ∈ l ∨ d = c := by
  unfold addNew
  split <;> simp_all

theorem nodup_addNew {l : List Chan} (c : Chan) (h : l.Nodup) : (addNew l c).Nodup := by
  unfold addNew
  split
  · exact h
  · simpa using List.Nodup.concat ‹c ∉ l› h

theorem addNew_extends (l : List Chan) (c : Chan) : l <+: addNew l c := by
  unfold addNew
  split
  · exact List.prefix_rfl
  · exact List.prefix_append _ _

theorem mem_foldl_addNew {d : Chan} (m l : List Chan) : d ∈ m.foldl addNew l ↔ d ∈ l ∨ d ∈ m := by
  induction m generalizing l with
  | nil => simp
  | cons c m ih => simp [ih, mem_addNew, or_assoc]

theorem nodup_foldl_addNew (m : List Chan) {l : List Chan} (h : l.Nodup) : (m.foldl addNew l).Nodup := by
  induction m generalizing l with
  | nil => exact h
  | cons c m ih => exact ih (nodup_addNew c h)

theorem foldl_addNew_extends (m l : List Chan) : l <+: m.foldl addNew l := by
  induction m generalizing l with
  | nil => exact List.prefix_rfl
  | cons c m ih => exact (addNew_extends l c).trans (ih _)

theorem mem_chans (c : Chan) : c ∈ chans := by revert c; decide

/-- Every channel has its place in the order in which the channels are taken (log 7). -/
theorem mem_channelOrder (pref : List Chan) (c : Chan) : c ∈ channelOrder pref := by
  have hf : channelOrder pref = pref.foldl addNew [] ++ chans.filter (fun d => decide (d ∉ pref)) := rfl
  rw [hf, List.mem_append, mem_foldl_addNew]
  by_cases h : c ∈ pref <;> simp [h, mem_chans]

/-- The channels a channel brings into the order of the request codes: itself, its leader before it (R8). -/
def withLeader (leaders : List (Chan × Chan)) (c : Chan) : List Chan :=
  match leaders.lookup c with
  | some q => [q, c]
  | none => [c]

theorem latchOrder_eq (order : List Chan) (leaders : List (Chan × Chan)) :
    latchOrder order leaders = (channelOrder order).foldl (fun l c => (withLeader leaders c).foldl addNew l) [] := rfl

theorem mem_withLeader (leaders : List (Chan × Chan)) (c : Chan) : c ∈ withLeader leaders c := by
  unfold withLeader
  split <;> simp

/-- Two elements in order in a list are two places of it. -/
theorem exists_append_of_pair_sublist {q c : Chan} {l : List Chan} (h : [q, c].Sublist l) :
    ∃ l1 l2 l3, l = l1 ++ q :: (l2 ++ c :: l3) := by
  obtain ⟨r1, r2, rfl, hq, hc⟩ := List.cons_sublist_iff.mp h
  obtain ⟨l1, m1, rfl⟩ := List.append_of_mem hq
  obtain ⟨m2, l3, rfl⟩ := List.append_of_mem (List.singleton_sublist.mp hc)
  exact ⟨l1, m1 ++ m2, l3, by simp⟩

section Steps

variable (leaders : List (Chan × Chan))

theorem nodup_latchOrder (order : List Chan) : (latchOrder order leaders).Nodup := by
  rw [latchOrder_eq]
  exact List.foldlRecOn _ _ List.nodup_nil fun l h _ _ => nodup_foldl_addNew _ h

theorem mem_latchSteps {c : Chan} (m l : List Chan) (h : c ∈ l ∨ c ∈ m) :
    c ∈ m.foldl (fun l d => (withLeader leaders d).foldl addNew l) l := by
  induction m generalizing l with
  | nil => simpa using h
  | cons d m ih =>
    refine ih _ ?_
    rw [mem_foldl_addNew]
    obtain h | h := h
    · exact .inl (.inl h)
    · obtain rfl | h := List.mem_cons.mp h
      · exact .inl (.inr (mem_withLeader leaders c))
      · exact .inr h

/-- Every channel has its place in the order of the request codes. -/
theorem mem_latchOrder (order : List Chan) (c : Chan) : c ∈ latchOrder order leaders :=
  mem_latchSteps leaders _ _ (.inr (mem_channelOrder order c))

/-- A channel that follows `q` and leads none stands behind `q` (R8). -/
theorem leader_before_follower (order : List Chan) {q c : Chan} (hq : leaders.lookup c = some q) (hne : q ≠ c)
    (hc : ∀ d, leaders.lookup d ≠ some c) : [q, c].Sublist (latchOrder order leaders) := by
  suffices h : c ∈ latchOrder order leaders → [q, c].Sublist (latchOrder order leaders) from h (mem_latchOrder leaders order c)
  rw [latchOrder_eq]
  refine List.foldlRecOn (motive := fun l => c ∈ l → [q, c].Sublist l) _ _ (by simp) fun l ih d _ hmem => ?_
  by_cases hin : c ∈ l
  · exact (ih hin).trans (foldl_addNew_extends _ l).sublist
  · by_cases hd : d = c
    · subst hd
      have hfirst : q ∈ addNew l q := mem_addNew.mpr (.inr rfl)
      have hlast : d ∉ addNew l q := fun e => (mem_addNew.mp e).elim hin hne.symm
      have hl : (withLeader leaders d).foldl addNew l = addNew l q ++ [d] := by simp [withLeader, hq, addNew_of_notMem hlast]
      rw [hl]
      exact (List.singleton_sublist.mpr hfirst).append (List.Sublist.refl [d])
    · refine absurd ((mem_foldl_addNew _ l).mp hmem) ?_
      unfold withLeader
      split
      · rename_i p hp
        have : p ≠ c := fun e => hc d (e ▸ hp)
        simp [hin, Ne.symm hd, this.symm]
      · simp [hin, Ne.symm hd]

end Steps

/-! ### The pairs of a commit (R8) -/

/-- No protected word being bad, the leader found for a follower is the partner of its valid pair (R8, R23). -/
theorem State.lookup_leadersOf (s : State) (h : s.quiet) (cs : List Chan) (c : Chan) :
    (s.leadersOf cs).1.lookup c = if c ∈ cs ∧ (s.rcd c).setup.role = .follower then s.partner c else none := by
  induction cs with
  | nil => simp [State.leadersOf]
  | cons d cs ih =>
    simp only [State.leadersOf, s.readPair_of_quiet d _ h]
    by_cases hr : (s.rcd d).setup.role = .follower
    · by_cases e : c = d
      · subst e
        rcases hp : s.partner c with _ | q <;> simp [hr, hp, ih]
      · rcases s.partner d with _ | q <;> simp [hr, ih, e, List.lookup_cons, beq_false_of_ne e]
    · by_cases e : c = d
      · subst e; simp [hr, ih]
      · simp [hr, ih, e]

theorem State.leadersOf_state (s : State) (h : s.quiet) (cs : List Chan) : (s.leadersOf cs).2 = s := by
  induction cs with
  | nil => rfl
  | cons d cs ih => simp [State.leadersOf, s.readPair_of_quiet d _ h, ih]

theorem TakeBuffer.mem_requested (b : TakeBuffer) (c : Chan) : c ∈ b.requested ↔ b.chan[c].request.isSome := by
  simp [TakeBuffer.requested, mem_chans]

/-- The pairs of a commit are read if two of its channels bring a request code. -/
theorem State.commitPairs_of_two (s : State) {b : TakeBuffer} {c q : Chan} (hne : q ≠ c) (hc : b.chan[c].request.isSome)
    (hq : b.chan[q].request.isSome) : s.commitPairs b = s.leadersOf b.requested := by
  refine if_neg fun hl => ?_
  have hc' := (b.mem_requested c).mpr hc
  have hq' := (b.mem_requested q).mpr hq
  rcases hr : b.requested with _ | ⟨x, _ | ⟨y, l⟩⟩
  · simp [hr] at hc'
  · simp only [hr, List.mem_singleton] at hc' hq'
    exact hne (hq'.trans hc'.symm)
  · simp [hr] at hl

theorem State.commitPairs_state (s : State) (h : s.quiet) (b : TakeBuffer) : (s.commitPairs b).2 = s := by
  unfold State.commitPairs
  split
  · rfl
  · exact s.leadersOf_state h _

/-- The order of the request codes puts the leader of a valid pair before its follower, both bringing one (R8). -/
theorem State.latchOrder_leader_first (s : State) (h : s.quiet) {b : TakeBuffer} {c q : Chan} (hc : b.chan[c].request.isSome)
    (hq : b.chan[q].request.isSome) (hp : s.partner c = some q) (hf : (s.rcd c).setup.role = .follower) (order : List Chan) :
    [q, c].Sublist (latchOrder order (s.commitPairs b).1) := by
  have hlead : (s.rcd q).setup.role = .leader := State.leader_of_partner_follower hp hf
  rw [s.commitPairs_of_two (State.partner_ne hp) hc hq]
  refine leader_before_follower _ order ?_ (State.partner_ne hp) fun d hd => ?_
  · rw [s.lookup_leadersOf h, if_pos ⟨(b.mem_requested c).mpr hc, hf⟩, hp]
  · rw [s.lookup_leadersOf h] at hd
    obtain ⟨⟨-, hdf⟩, hdp⟩ := Option.ite_none_right_eq_some.mp hd
    obtain rfl : d = q := by simpa [State.partner_symm hdp] using hp
    simp [hdf] at hlead

end Sys2Proof.Machine
end

section
/-! SUPPORT. A commit: the values it delivers, and the request codes one by one (R7, R8, R25, R138). -/

namespace Sys2Proof.Machine

open Sys2Proof

/-! ### The delivered values (R25) -/

/-- An update of each channel of a list, each once. -/
theorem State.chan_foldl_onChan (f : Chan → Channel → Channel) (d : Chan) {l : List Chan} (hl : l.Nodup) (s : State) :
    (l.foldl (fun x c => x.onChan c (f c)) s).chan d = if d ∈ l then f d (s.chan d) else s.chan d := by
  induction l generalizing s with
  | nil => rfl
  | cons c l ih =>
    obtain ⟨hc, hl⟩ := List.nodup_cons.mp hl
    rw [List.foldl_cons, ih hl]
    by_cases e : c = d
    · subst e; simp [hc]
    · simp [s.chan_onChan_ne e, Ne.symm e]

/-- A channel with the setpoints of one commit delivered (R25, R138). -/
def ChanTakes.deliver (k : ChanTakes) (x : Channel) : Channel :=
  let set := k.iq.isSome || k.id.isSome
  { x with
    hid := { x.hid with
      iqIn := k.iq.getD x.hid.iqIn
      idIn := k.id.getD x.hid.idIn
      vdIn := k.vd.getD x.hid.vdIn
      vqIn := k.vq.getD x.hid.vqIn
      fresh := x.hid.fresh || set }
    counts := if set then { x.counts with setpoints := bump x.counts.setpoints } else x.counts }

/-- The state after the delivery of a commit, before its request codes. -/
def State.delivered (s : State) : State := chans.foldl (fun x c => x.commitChan c s.walker.takes.chan[c]) s

theorem State.chan_delivered (s : State) (c : Chan) : s.delivered.chan c = s.walker.takes.chan[c].deliver (s.chan c) := by
  have h := State.chan_foldl_onChan (fun d => s.walker.takes.chan[d].deliver) c (l := chans) (by decide) s
  rw [if_pos (mem_chans c)] at h
  exact h

/-! ### The request codes (R7, R8) -/

/-- A channel with the request code of one commit in its latch, if there is one. -/
def ChanTakes.latch (k : ChanTakes) (x : Channel) : Channel :=
  match k.request with
  | some v => { x with record := { x.record with status := { x.record.status with latch := requestOf v } } }
  | none => x

theorem ChanTakes.latch_some {k : ChanTakes} {v : BitVec 4} (h : k.request = some v) (x : Channel) :
    k.latch x = { x with record := { x.record with status := { x.record.status with latch := requestOf v } } } := by
  unfold ChanTakes.latch; rw [h]

theorem ChanTakes.latch_none {k : ChanTakes} (h : k.request = none) (x : Channel) : k.latch x = x := by
  unfold ChanTakes.latch; rw [h]

theorem ChanTakes.latch_hid (k : ChanTakes) (x : Channel) : (k.latch x).hid = x.hid := by
  unfold ChanTakes.latch
  split <;> rfl

theorem ChanTakes.latch_counts (k : ChanTakes) (x : Channel) : (k.latch x).counts = x.counts := by
  unfold ChanTakes.latch
  split <;> rfl

section Requests

variable (b : TakeBuffer) (s : State)

theorem State.commitRequest_some {c : Chan} {v : BitVec 4} (h : b.chan[c].request = some v) :
    State.commitRequest b s c = s.writeLatch c (requestOf v) := by
  unfold State.commitRequest; rw [h]

theorem State.commitRequest_none {c : Chan} (h : b.chan[c].request = none) : State.commitRequest b s c = s := by
  unfold State.commitRequest; rw [h]

theorem State.commitRequest_unacted (c d : Chan) : ((State.commitRequest b s c).chan d).unacted =
    if d = c then (b.chan[d].latch (s.chan d)).unacted else (s.chan d).unacted := by
  by_cases e : d = c
  · subst e
    rw [if_pos rfl]
    rcases h : b.chan[d].request with _ | v
    · rw [State.commitRequest_none b s h, ChanTakes.latch_none h]
    · rw [State.commitRequest_some b s h, s.writeLatch_unacted, ChanTakes.latch_some h, State.latched, s.chan_onChan]
  · rw [if_neg e]
    rcases h : b.chan[c].request with _ | v
    · rw [State.commitRequest_none b s h]
    · rw [State.commitRequest_some b s h, s.writeLatch_unacted, State.latched, s.chan_onChan_ne (Ne.symm e)]

theorem ChanTakes.latch_unacted (k : ChanTakes) {x y : Channel} (h : x.unacted = y.unacted) :
    (k.latch x).unacted = (k.latch y).unacted := by
  simp only [Channel.unacted_inj_iff] at h ⊢
  unfold ChanTakes.latch
  split <;> simp_all

theorem ChanTakes.latch_latch (k : ChanTakes) (x : Channel) : k.latch (k.latch x) = k.latch x := by
  unfold ChanTakes.latch
  split <;> simp

/-- Whatever words are bad, the request codes of a commit only change the latches they reach in what no action changes. -/
theorem State.commitRequests_unacted (l : List Chan) (d : Chan) : ((l.foldl (State.commitRequest b) s).chan d).unacted =
    if d ∈ l then (b.chan[d].latch (s.chan d)).unacted else (s.chan d).unacted := by
  induction l generalizing s with
  | nil => rfl
  | cons c l ih =>
    rw [List.foldl_cons, ih]
    have hc := State.commitRequest_unacted b s c d
    by_cases e : d = c
    · subst e
      rw [if_pos rfl] at hc
      by_cases hl : d ∈ l
      · simp [hl, ChanTakes.latch_unacted _ hc, ChanTakes.latch_latch]
      · simp [hl, hc]
    · rw [if_neg e] at hc
      by_cases hl : d ∈ l
      · simp [hl, ChanTakes.latch_unacted _ hc]
      · simp [hl, hc, e]

theorem ChanTakes.latch_pairing (k : ChanTakes) (x : Channel) : (k.latch x).record.pairing = x.record.pairing := by
  unfold ChanTakes.latch
  split <;> rfl

/-- The request codes of a commit change no pair. -/
theorem State.commitRequests_partner (l : List Chan) (c : Chan) : (l.foldl (State.commitRequest b) s).partner c = s.partner c := by
  refine State.partner_congr (fun d => ?_) c
  have h := State.commitRequests_unacted b s l d
  by_cases hd : d ∈ l
  · rw [if_pos hd] at h
    exact (Channel.pairing_of_unacted h).trans (ChanTakes.latch_pairing _ _)
  · rw [if_neg hd] at h
    exact Channel.pairing_of_unacted h

theorem State.commitRequest_quiet {s : State} (h : s.quiet) (c : Chan) : (State.commitRequest b s c).quiet := by
  rcases hr : b.chan[c].request with _ | v
  · rwa [State.commitRequest_none b s hr]
  · rw [State.commitRequest_some b s hr]; exact s.writeLatch_quiet c _ h

theorem State.commitRequests_quiet {s : State} (h : s.quiet) (l : List Chan) : (l.foldl (State.commitRequest b) s).quiet :=
  List.foldlRecOn _ _ h fun _ hx c _ => State.commitRequest_quiet b hx c

theorem State.commitRequest_others {s : State} (h : s.quiet) {c d : Chan} (hd : d ≠ c) (hp : s.partner d ≠ some c) :
    (State.commitRequest b s c).chan d = s.chan d ∧ (State.commitRequest b s c).link d = s.link d := by
  rcases hr : b.chan[c].request with _ | v
  · rw [State.commitRequest_none b s hr]; exact ⟨rfl, rfl⟩
  · rw [State.commitRequest_some b s hr]
    exact s.writeLatch_others c _ h hd fun e => hp (State.partner_symm e)

/-- The request codes of other channels, none of them its partner, do not reach a channel (R7, R15). -/
theorem State.commitRequests_others {s : State} (h : s.quiet) {l : List Chan} {d : Chan} (hd : d ∉ l)
    (hp : ∀ c ∈ l, s.partner d ≠ some c) :
    (l.foldl (State.commitRequest b) s).chan d = s.chan d ∧ (l.foldl (State.commitRequest b) s).link d = s.link d := by
  induction l generalizing s with
  | nil => exact ⟨rfl, rfl⟩
  | cons c l ih =>
    obtain ⟨hdc, hdl⟩ : d ≠ c ∧ d ∉ l := by simpa using hd
    have hpart : (State.commitRequest b s c).partner d = s.partner d := State.commitRequests_partner b s [c] d
    have hone := State.commitRequest_others b h hdc (hp c List.mem_cons_self)
    have hrest := ih (s := State.commitRequest b s c) (State.commitRequest_quiet b h c) hdl
      fun e he => hpart ▸ hp e (List.mem_cons_of_mem _ he)
    exact ⟨hrest.1.trans hone.1, hrest.2.trans hone.2⟩

/-- The request code of a channel without a partner finds the channel as it was before the commit's codes, and is the last to reach it. -/
theorem State.commitRequests_alone {s : State} (h : s.quiet) {l : List Chan} {c : Chan} (hl : l.Nodup) (hc : c ∈ l)
    (hp : s.partner c = none) :
    ∃ x : State, x.quiet ∧ x.partner c = none ∧ x.chan c = s.chan c ∧ x.link c = s.link c ∧
      (l.foldl (State.commitRequest b) s).chan c = (State.commitRequest b x c).chan c := by
  obtain ⟨before, after, rfl⟩ := List.append_of_mem hc
  obtain ⟨hbefore, hafter⟩ : c ∉ before ∧ c ∉ after := by
    rw [List.nodup_middle, List.nodup_cons, List.mem_append, not_or] at hl
    exact hl.1
  have hx := State.commitRequests_others b h hbefore (by simp [hp])
  have hxq := State.commitRequests_quiet b h before
  have hxp := (State.commitRequests_partner b s before c).trans hp
  refine ⟨before.foldl (State.commitRequest b) s, hxq, hxp, hx.1, hx.2, ?_⟩
  have hpart := (State.commitRequests_partner b (before.foldl (State.commitRequest b) s) [c] c).trans hxp
  rw [List.foldl_append, List.foldl_cons]
  exact (State.commitRequests_others b (State.commitRequest_quiet b hxq c) hafter fun e _ he => by
    simp only [List.foldl_cons, List.foldl_nil] at hpart
    simp [hpart] at he).1

/-- A HALT among the codes of a commit stops its RUNNING channel, which has no partner (R15). -/
theorem State.commitRequests_halt {s : State} (h : s.quiet) {l : List Chan} {c : Chan} (hl : l.Nodup) (hc : c ∈ l)
    (hp : s.partner c = none) (hr : b.chan[c].request = some 3) (hst : (s.status c).state = .running) :
    ((l.foldl (State.commitRequest b) s).status c).state = .stopping ∧
      ((l.foldl (State.commitRequest b) s).hid c).stopKind = .halt := by
  obtain ⟨x, hxq, hxp, hxc, -, hlast⟩ := State.commitRequests_alone b h hl hc hp
  simp only [State.status, State.rcd, State.hid, hlast, State.commitRequest_some b x hr]
  exact State.writeLatch_halt hxq (by simpa only [State.status, State.rcd, hxc] using hst) hxp

/-- A RUN among the codes of a commit starts a channel that can run, has no partner and is no follower (R13). -/
theorem State.commitRequests_run {s : State} (h : s.quiet) {l : List Chan} {c : Chan} (hl : l.Nodup) (hc : c ∈ l)
    (hp : s.partner c = none) (hr : b.chan[c].request = some 2) (hrun : s.canRun c) (hrole : (s.rcd c).setup.role ≠ .follower) :
    ((l.foldl (State.commitRequest b) s).status c).state = .running := by
  obtain ⟨x, hxq, -, hxc, hxl, hlast⟩ := State.commitRequests_alone b h hl hc hp
  simp only [State.status, State.rcd, hlast, State.commitRequest_some b x hr]
  exact (State.writeLatch_run hxq ((State.canRun_congr hxc hxl).mpr hrun) fun hf => absurd hf (by
    simpa only [State.rcd, hxc] using hrole)).1

/-- The codes of other channels reach neither channel of a pair. -/
theorem State.commitRequests_others_pair {x : State} (h : x.quiet) {l : List Chan} {c q : Chan} (hp : x.partner c = some q)
    (hc : c ∉ l) (hq : q ∉ l) {d : Chan} (hd : d = c ∨ d = q) :
    (l.foldl (State.commitRequest b) x).chan d = x.chan d ∧ (l.foldl (State.commitRequest b) x).link d = x.link d := by
  obtain rfl | rfl := hd
  · exact State.commitRequests_others b h hc fun e he hpe => hq (Option.some.inj (hp.symm.trans hpe) ▸ he)
  · exact State.commitRequests_others b h hq fun e he hpe => hc (Option.some.inj ((State.partner_symm hp).symm.trans hpe) ▸ he)

/-- A RUN code reaching a channel that can run, whose leader, if it is a follower, is RUNNING, starts it and reaches no other (R13). -/
theorem State.commitRequest_run {x : State} (h : x.quiet) {c : Chan} (hr : b.chan[c].request = some 2) (hc : x.canRun c)
    (hf : (x.rcd c).setup.role = .follower → ∀ q, x.partner c = some q → (x.status q).state = .running) :
    ((State.commitRequest b x c).status c).state = .running ∧
      ∀ d, d ≠ c → (State.commitRequest b x c).chan d = x.chan d ∧ (State.commitRequest b x c).link d = x.link d := by
  rw [State.commitRequest_some b x hr]
  exact State.writeLatch_run h hc hf

/-- With its leader RUNNING, a follower's RUN among the codes of a commit starts it, and both run on (R13). -/
theorem State.commitRequests_run_follower {x : State} (h : x.quiet) {l m : List Chan} {c q : Chan} (hp : x.partner c = some q)
    (hcl : c ∉ l) (hql : q ∉ l) (hcm : c ∉ m) (hqm : q ∉ m) (hr : b.chan[c].request = some 2) (hc : x.canRun c)
    (hq : (x.status q).state = .running) :
    (((l ++ c :: m).foldl (State.commitRequest b) x).status q).state = .running ∧
      (((l ++ c :: m).foldl (State.commitRequest b) x).status c).state = .running := by
  rw [List.foldl_append, List.foldl_cons]
  have hsame (d : Chan) (hd : d = c ∨ d = q) := State.commitRequests_others_pair b h hp hcl hql hd
  have hyp := (State.commitRequests_partner b x l c).trans hp
  have hyq := State.commitRequests_quiet b h l
  generalize l.foldl (State.commitRequest b) x = y at hsame hyp hyq ⊢
  have hleads : (y.status q).state = .running := by simpa only [State.status, State.rcd, (hsame q (.inr rfl)).1] using hq
  have hcan : y.canRun c := (State.canRun_congr (hsame c (.inl rfl)).1 (hsame c (.inl rfl)).2).mpr hc
  have hrun := State.commitRequest_run b hyq hr hcan fun _ p hyp' => Option.some.inj (hyp.symm.trans hyp') ▸ hleads
  have hzp := (State.commitRequests_partner b y [c] c).trans hyp
  have hrest (d : Chan) (hd : d = c ∨ d = q) :=
    (State.commitRequests_others_pair b (State.commitRequest_quiet b hyq c) hzp hcm hqm hd).1
  constructor
  · simpa only [State.status, State.rcd, hrest q (.inr rfl), (hrun.2 q (State.partner_ne hp)).1] using hleads
  · simpa only [State.status, State.rcd, hrest c (.inl rfl)] using hrun.1

/-- The RUN codes of a leader and its follower among the codes of a commit, the leader's first, start both (R8, R13). -/
theorem State.commitRequests_run_pair {s : State} (h : s.quiet) {l : List Chan} {c q : Chan} (hl : l.Nodup)
    (hord : [q, c].Sublist l) (hp : s.partner c = some q) (hf : (s.rcd c).setup.role = .follower)
    (hrc : b.chan[c].request = some 2) (hrq : b.chan[q].request = some 2) (hc : s.canRun c) (hq : s.canRun q) :
    ((l.foldl (State.commitRequest b) s).status q).state = .running ∧
      ((l.foldl (State.commitRequest b) s).status c).state = .running := by
  obtain ⟨l1, l2, l3, rfl⟩ := exists_append_of_pair_sublist hord
  obtain ⟨⟨hq1, hq2, hqc, hq3⟩, hc1, hc2, hc3⟩ : (q ∉ l1 ∧ q ∉ l2 ∧ q ≠ c ∧ q ∉ l3) ∧ c ∉ l1 ∧ c ∉ l2 ∧ c ∉ l3 := by
    rw [List.nodup_middle, List.nodup_cons, ← List.append_assoc, List.nodup_middle, List.nodup_cons] at hl
    simpa [and_assoc] using And.intro hl.1 hl.2.1
  rw [List.foldl_append, List.foldl_cons]
  have hsame (d : Chan) (hd : d = c ∨ d = q) := State.commitRequests_others_pair b h hp hc1 hq1 hd
  have hyp := (State.commitRequests_partner b s l1 c).trans hp
  have hyq := State.commitRequests_quiet b h l1
  generalize l1.foldl (State.commitRequest b) s = y at hsame hyp hyq ⊢
  have hlead : (y.rcd q).setup.role ≠ .follower := by
    simp only [State.rcd, (hsame q (.inr rfl)).1]
    exact (State.leader_of_partner_follower hp hf).symm ▸ by decide
  have hcan : y.canRun q := (State.canRun_congr (hsame q (.inr rfl)).1 (hsame q (.inr rfl)).2).mpr hq
  have hrun := State.commitRequest_run b hyq hrq hcan fun e => absurd e hlead
  have hzc := hrun.2 c hqc.symm
  have hcan' : (State.commitRequest b y q).canRun c :=
    (State.canRun_congr (hzc.1.trans (hsame c (.inl rfl)).1) (hzc.2.trans (hsame c (.inl rfl)).2)).mpr hc
  exact State.commitRequests_run_follower b (State.commitRequest_quiet b hyq q)
    ((State.commitRequests_partner b y [q] c).trans hyp) hc2 hq2 hc3 hq3 hrc hcan' hrun.1

end Requests

/-! ### The whole commit (R138) -/

section Commit

variable (s : State) (order : List Chan)

/-- The state after the delivery and the request codes of a commit. -/
def State.requested (s : State) (order : List Chan) : State :=
  (latchOrder order (s.delivered.commitPairs s.walker.takes).1).foldl (State.commitRequest s.walker.takes)
    (s.delivered.commitPairs s.walker.takes).2

theorem State.commit_eq (h : s.walker.takes ≠ {}) : s.commit order = { s.requested order with
    share := { (s.requested order).share with supply := s.walker.takes.supply.getD (s.requested order).share.supply }
    walker := { (s.requested order).walker with
      takes := {}
      counts := { (s.requested order).walker.counts with commits := bump (s.requested order).walker.counts.commits } } } := by
  unfold State.commit
  simp only [TakeBuffer.isEmpty, h, decide_false]
  rfl

@[simp] theorem State.requested_keeps : (s.requested order).share = s.share ∧ (s.requested order).walker = s.walker := by
  simp [State.requested, State.delivered]

/-- A commit empties the buffer and is counted; the supply limit taken is set (R138). -/
theorem State.commit_node (h : s.walker.takes ≠ {}) :
    (s.commit order).share = { s.share with supply := s.walker.takes.supply.getD s.share.supply } ∧
      (s.commit order).walker.takes = {} ∧ (s.commit order).walker.counts.commits = bump s.walker.counts.commits := by
  simp [s.commit_eq order h]

theorem State.chan_commit (h : s.walker.takes ≠ {}) (c : Chan) : (s.commit order).chan c = (s.requested order).chan c := by
  rw [s.commit_eq order h]
  rfl

/-- Whatever words are bad, a commit delivers each channel's values and writes its code into its latch (R25, R138). -/
theorem State.commit_unacted (h : s.walker.takes ≠ {}) (c : Chan) : ((s.commit order).chan c).unacted =
    (s.walker.takes.chan[c].latch (s.walker.takes.chan[c].deliver (s.chan c))).unacted := by
  have hp : (s.delivered.commitPairs s.walker.takes).2.chan c = s.delivered.chan c := by
    simp only [State.chan, State.commitPairs_keeps]
  rw [s.chan_commit order h, State.requested, State.commitRequests_unacted, if_pos (mem_latchOrder _ order c), hp, s.chan_delivered]

theorem State.delivered_quiet (h : s.quiet) : s.delivered.quiet := by
  have hs : s.delivered.svc = s.svc := by simp [State.delivered]
  simpa only [State.quiet, hs] using h

theorem State.link_delivered (c : Chan) : s.delivered.link c = s.link c := by
  simp [State.delivered, State.link]

theorem State.rcd_delivered (c : Chan) : s.delivered.rcd c = s.rcd c := by
  simp [State.rcd, s.chan_delivered, ChanTakes.deliver]

theorem State.partner_delivered (c : Chan) : s.delivered.partner c = s.partner c :=
  State.partner_congr (fun d => congrArg Record.pairing (s.rcd_delivered d)) c

theorem State.requested_of_quiet (h : s.quiet) : s.requested order =
    (latchOrder order (s.delivered.commitPairs s.walker.takes).1).foldl (State.commitRequest s.walker.takes) s.delivered := by
  rw [State.requested, State.commitPairs_state _ (s.delivered_quiet h)]

theorem State.canRun_delivered (c : Chan) : s.delivered.canRun c ↔ s.canRun c := by
  simp only [State.canRun, State.status, s.rcd_delivered, s.link_delivered]

/-- Whatever words are bad, a commit delivers a channel's values, its fresh mark and its count (R25, R138). -/
theorem State.commit_delivers (h : s.walker.takes ≠ {}) (c : Chan) :
    let x := s.walker.takes.chan[c].deliver (s.chan c)
    (((s.commit order).hid c).iqIn = x.hid.iqIn ∧ ((s.commit order).hid c).idIn = x.hid.idIn ∧
      ((s.commit order).hid c).vdIn = x.hid.vdIn ∧ ((s.commit order).hid c).vqIn = x.hid.vqIn ∧
      ((s.commit order).hid c).fresh = x.hid.fresh) ∧ ((s.commit order).chan c).counts = x.counts := by
  obtain ⟨-, -, -, hvalues, -, hcounts⟩ := (Channel.unacted_inj_iff _ _).mp (s.commit_unacted order h c)
  rw [ChanTakes.latch_hid] at hvalues
  rw [ChanTakes.latch_counts] at hcounts
  exact ⟨hvalues, hcounts⟩

/-- Whatever words are bad, the latches after a commit hold the codes it brought (R7, R138). -/
theorem State.commit_latch (h : s.walker.takes ≠ {}) (c : Chan) :
    ((s.commit order).status c).latch = (s.walker.takes.chan[c].latch (s.chan c)).record.status.latch := by
  obtain ⟨-, -, hlatch, -⟩ := (Channel.unacted_inj_iff _ _).mp (s.commit_unacted order h c)
  refine hlatch.trans ?_
  rcases hr : s.walker.takes.chan[c].request with _ | v
  · simp only [ChanTakes.latch_none hr, ChanTakes.deliver]
  · simp only [ChanTakes.latch_some hr]

variable {s} {c : Chan}

/-- No protected word being bad, a HALT committed stops its RUNNING channel, which has no partner (R7, R15). -/
theorem State.commit_halt (hq : s.quiet) (h : s.walker.takes ≠ {}) (hr : s.walker.takes.chan[c].request = some 3)
    (hst : (s.status c).state = .running) (hp : s.partner c = none) :
    ((s.commit order).status c).state = .stopping ∧ ((s.commit order).hid c).stopKind = .halt := by
  simp only [State.status, State.rcd, State.hid, s.chan_commit order h, s.requested_of_quiet order hq]
  exact State.commitRequests_halt _ (s.delivered_quiet hq) (nodup_latchOrder _ order) (mem_latchOrder _ order c)
    (by rw [s.partner_delivered, hp]) hr (by rw [State.status, s.rcd_delivered]; exact hst)

/-- No protected word being bad, a RUN committed starts a channel that can run, has no partner and is no follower (R7, R13). -/
theorem State.commit_run (hq : s.quiet) (h : s.walker.takes ≠ {}) (hr : s.walker.takes.chan[c].request = some 2) (hc : s.canRun c)
    (hp : s.partner c = none) (hrole : (s.rcd c).setup.role ≠ .follower) : ((s.commit order).status c).state = .running := by
  simp only [State.status, State.rcd, s.chan_commit order h, s.requested_of_quiet order hq]
  exact State.commitRequests_run _ (s.delivered_quiet hq) (nodup_latchOrder _ order) (mem_latchOrder _ order c)
    (by rw [s.partner_delivered, hp]) hr ((s.canRun_delivered c).mpr hc) (by rwa [s.rcd_delivered])

/-- No protected word being bad, the RUN codes of both channels of a pair in one commit start both (R8). -/
theorem State.commit_run_pair (hq : s.quiet) (h : s.walker.takes ≠ {}) {q : Chan} (hrc : s.walker.takes.chan[c].request = some 2)
    (hrq : s.walker.takes.chan[q].request = some 2) (hc : s.canRun c) (hcq : s.canRun q) (hp : s.partner c = some q)
    (hrole : (s.rcd c).setup.role = .follower) :
    ((s.commit order).status q).state = .running ∧ ((s.commit order).status c).state = .running := by
  have hp' : s.delivered.partner c = some q := by rw [s.partner_delivered, hp]
  have hrole' : (s.delivered.rcd c).setup.role = .follower := by rw [s.rcd_delivered, hrole]
  simp only [State.status, State.rcd, s.chan_commit order h, s.requested_of_quiet order hq]
  exact State.commitRequests_run_pair _ (s.delivered_quiet hq) (nodup_latchOrder _ order)
    (s.delivered.latchOrder_leader_first (s.delivered_quiet hq) (by rw [hrc]; rfl) (by rw [hrq]; rfl) hp' hrole' order)
    hp' hrole' hrc hrq ((s.canRun_delivered c).mpr hc) ((s.canRun_delivered q).mpr hcq)

end Commit

end Sys2Proof.Machine
end

section
/-! SUPPORT. Word F and the end symbol of a good CYCLE frame (R117, R121): what the frame goes out as, and what its end leaves. -/

namespace Sys2Proof.Machine

open Sys2Proof

/-- A symbol of a frame at Port U in UP changes no link state (R111). -/
theorem State.hear_of_up (s : State) (t : Nat) (h : s.ring.portU.state = .up) : s.hear t .u = s.heard t := by
  simp [State.hear, State.see, State.setPort, RingPort.see, Ring.port, Ring.setPort, h, State.onRing, State.heard]

/-- The frame being passed at an instant is the one that was being passed before, or that one lost since (R113, R114). -/
theorem State.passing_before {s : State} {t : Nat} {f : Frame} (h : s.passing t f) :
    ∃ g, s.ring.frame = some g ∧ g.phase = f.phase ∧ g.rx = f.rx := by
  have hk : s.ring.sameFrame (s.ring.settle (max s.now t)) := (Ring.kept_settle _ _).frame
  obtain ⟨hf, -⟩ := h
  rw [State.arrive_ring] at hf
  obtain e | e := hk
  · exact ⟨f, e ▸ hf, rfl, rfl⟩
  · rw [hf] at e
    obtain ⟨g, hg, rfl⟩ := Option.map_eq_some_iff.mp e.symm
    exact ⟨g, hg, rfl, rfl⟩

section Finish

variable {s : State} {f : Frame} {w : Word} {now : Nat} (order : List Chan)

/-- Word F does not change the payload length, which the first word gives (R117). -/
theorem Frame.push_payload (hl : f.rx.length = f.payload + 22) (out : Word) : (f.push w out now).payload = f.payload := by
  have h0 : 0 < f.rx.length := by omega
  simp only [Frame.payload, Frame.push, List.getD_append _ _ _ _ h0]

/-- A CYCLE frame whose last word is F at its place commits what was taken if F is good, and discards it if not (R121, R138, R139). -/
theorem State.finishFrame_cycle (hf : s.ring.frame = some (f.push w w now)) (hc : f.phase = .cycle)
    (hl : f.rx.length = f.payload + 22) :
    s.finishFrame order =
      if w = frameCrc f.rx then (s.commit order).closeFrame (f.push w w now) ((f.push w w now).sealed false)
      else (s.damaged (f.push w w now)).closeFrame (f.push w w now) ((f.push w w now).sealed true) := by
  have hphase : (f.push w w now).phase = .cycle := hc
  have hwhole : (f.push w w now).rx.length = (f.push w w now).whole := by
    rw [Frame.whole, Frame.push_payload hl]
    simp [Frame.push, hl]
  have hgood : (f.push w w now).checkGood = decide (w = frameCrc f.rx) := by simp [Frame.checkGood, Frame.push]
  unfold State.finishFrame
  simp only [hf, hphase, reduceCtorEq, if_false, HeaderPhase.tested, if_true, hwhole, hgood, decide_eq_true_eq]

/-- A frame that is not lost goes out with the check over the words forwarded in the place of F (R121, R122). -/
theorem Frame.sealed_of_check (hc : f.phase = .cycle) (hl : f.rx.length = f.payload + 22) (hlost : f.lost = false)
    (htx : f.tx.length = f.rx.length) : (f.push w w now).sealed false = f.tx ++ [frameCrc f.tx] := by
  have hphase : (f.push w w now).phase = .cycle := hc
  have htx' : (f.push w w now).tx = f.tx ++ [w] := by simp [Frame.push, hlost]
  have hwhole : (f.tx ++ [w]).length = (f.push w w now).whole := by
    rw [Frame.whole, Frame.push_payload hl]
    simp [htx, hl]
  simp only [Frame.sealed, hphase, htx', ← hwhole, reduceCtorEq, lt_irrefl, or_self, if_false, List.take_length, List.drop_length,
    List.append_nil, sealFrame, List.dropLast_concat, Bool.false_eq_true]

/-- Closing a frame that ordered no reset takes the frame from Port U and notes what went out; it leaves every block but the ring and the
formed reply as it is (R113, R117). -/
theorem State.closeFrame_of_no_reset (f : Frame) (sent : List Word) (h : s.resp.resetOrdered = false) :
    (s.closeFrame f sent).channels = s.channels ∧ (s.closeFrame f sent).share = s.share ∧ (s.closeFrame f sent).walker = s.walker ∧
      (s.closeFrame f sent).tb = s.tb ∧ (s.closeFrame f sent).pending = s.pending ∧
      (s.closeFrame f sent).ring.counts = s.ring.counts ∧ (s.closeFrame f sent).ring.frame = none ∧
      (f.lost = false → (s.closeFrame f sent).ring.forwarded = some { path := f.path, words := sent }) := by
  simp +contextual [State.closeFrame, State.endFrame, h, Ring.closeTx, State.onRing, State.onResp]

theorem State.discard_takes (s : State) : s.discard.walker.takes = {} := by
  unfold State.discard
  split
  · rename_i h
    simpa [TakeBuffer.isEmpty] using h
  · rfl

theorem State.damaged_takes (f : Frame) : (s.damaged f).walker.takes = {} := State.discard_takes _

end Finish

/-- Word F of a frame has come at an instant, and no end symbol yet. -/
def State.checked (s : State) (t : Nat) (f : Frame) (w : Word) : State := (s.heard t).setFrame (f.push w w (max s.now t))

/-- A FRAME_CHECK where the header says word F lies, the end symbol directly after it, passes the word as it came and commits what was
taken if it is good, and discards it if not (R117, R121, R138, R139). -/
theorem frameCheck_closed {s : State} {t : Nat} {f : Frame} (w : Word) (order : List Chan) (hp : s.passing t f) (hc : f.phase = .cycle)
    (ha : f.area = []) (hl : f.rx.length = f.payload + 22) :
    let g := f.push w w (max s.now t)
    exec (.frameCheck t w true order) s = .next (
      if w = frameCrc f.rx then ((s.checked t f w).commit order).closeFrame g (g.sealed false)
      else ((s.checked t f w).damaged g).closeFrame g (g.sealed true)) := by
  obtain ⟨g, hg, hphase, hrx⟩ := s.passing_before hp
  have hplace : g.phase ≠ .awaiting ∧ g.rx.length + 1 = g.whole := by
    simp [hphase, hc, Frame.whole, Frame.payload, hrx, hl]
  have hword : (s.heard t).passWord w = s.checked t f w := by
    have hframe : (s.heard t).ring.frame = some f := hp.1
    have hin : f.inPayload = false := by simp [Frame.inPayload, Frame.areaAt, hl]; omega
    have harea : f.rx.length ≠ f.areaAt := by simp [Frame.areaAt, hl]; omega
    have hsame : { f with area := f.area.drop 1 } = f := by cases f; simp_all
    have hnot : f.phase ≠ .awaiting := by simp [hc]
    unfold State.passWord
    simp only [hframe, hnot, if_false, hin, Bool.false_eq_true, harea, hsame]
    simp [ha, State.checked]
  have hend := State.finishFrame_cycle (s := s.checked t f w) (now := max s.now t) order rfl hc hl
  simp only [exec, execFrameCheck, hg, if_pos hplace, s.hear_of_up t hp.2, State.frameSymbol, hword, if_true, hend]

end Sys2Proof.Machine
end

section
/-! PROOF. What a good frame check commits and a bad one does not (R25, R121, R138). -/

namespace Sys2Proof.Machine

open Sys2Proof

/-- Settles O17: the frame check ends the frame by a commit or a discard; a commit delivers through every bad word, and with none bad its
codes act one by one, each reaching its channel and that channel's partner alone, a leader's before its follower's. -/
theorem goodCheckCommitsTheTakes : Obligations.GoodCheckCommitsTheTakes := by
  intro t w order s f hp hcycle harea hl hreset htakes
  refine ⟨_, frameCheck_closed w order hp hcycle harea hl, ?_⟩
  by_cases hw : w = frameCrc f.rx
  · rw [if_pos hw]
    obtain ⟨-, hpending, hring, htb, hresp⟩ := (s.checked t f w).commit_keeps order
    obtain ⟨hshare, htaken, hcount⟩ := (s.checked t f w).commit_node order htakes
    obtain ⟨uchannels, ushare, uwalker, utb, upending, ucounts, uframe, usent⟩ :=
      State.closeFrame_of_no_reset (s := (s.checked t f w).commit order) (f.push w w (max s.now t))
        ((f.push w w (max s.now t)).sealed false) (by rw [hresp]; exact hreset)
    generalize ((s.checked t f w).commit order).closeFrame _ _ = u at *
    have uchan (c : Chan) : u.chan c = ((s.checked t f w).commit order).chan c := by simp only [State.chan, uchannels]
    refine ⟨fun h => absurd hw h, fun _ => ⟨fun hlost htx => ?_, ?_, ?_, fun c => ?_, ?_, fun hq c => ⟨?_, ?_, ?_, ?_⟩⟩,
      uframe, ?_, ?_, ?_⟩
    · rw [usent hlost, Frame.sealed_of_check hcycle hl hlost htx]; rfl
    · rw [uwalker, hcount]; rfl
    · rw [ushare, hshare]; rfl
    · obtain ⟨⟨hiq, hid, hvd, hvq, hfresh⟩, hcounts⟩ := (s.checked t f w).commit_delivers order htakes c
      simp only [State.hid, uchan]
      refine ⟨hiq, hid, hvd, hvq, hfresh, (congrArg ChanCounts.setpoints hcounts).trans ?_⟩
      exact apply_ite ChanCounts.setpoints _ _ _
    · rw [ucounts, hring]; rfl
    · have hlatch := (s.checked t f w).commit_latch order htakes c
      simp only [State.status, State.rcd, uchan]
      split
      · rename_i hr
        exact hlatch.trans (congrArg (fun x => x.record.status.latch) (ChanTakes.latch_none hr _))
      · rename_i v hr
        exact hlatch.trans (congrArg (fun x => x.record.status.latch) (ChanTakes.latch_some hr _))
    · intro hr hst hpart
      simp only [State.status, State.rcd, State.hid, uchan]
      exact State.commit_halt order (s := s.checked t f w) hq htakes hr hst hpart
    · rintro ⟨hr, hrun⟩ hpart hrole
      simp only [State.status, State.rcd, uchan]
      exact State.commit_run order (s := s.checked t f w) hq htakes hr hrun hpart hrole
    · rintro q ⟨hr, hrun⟩ ⟨hrq, hrunq⟩ hpart hrole
      simp only [State.status, State.rcd, uchan]
      exact State.commit_run_pair order (s := s.checked t f w) hq htakes hr hrq hrun hrunq hpart hrole
    · rw [uwalker, htaken]
    · rw [utb, htb]; rfl
    · rw [upending, hpending]; rfl
  · rw [if_neg hw]
    obtain ⟨-, hpending, htb, hchannels, -, -, hshare, hresp⟩ := (s.checked t f w).damaged_keeps (f.push w w (max s.now t))
    obtain ⟨uchannels, ushare, uwalker, utb, upending, -, uframe, -⟩ :=
      State.closeFrame_of_no_reset (s := (s.checked t f w).damaged (f.push w w (max s.now t))) (f.push w w (max s.now t))
        ((f.push w w (max s.now t)).sealed true) (by rw [hresp]; exact hreset)
    refine ⟨fun _ => ⟨uchannels.trans hchannels, ushare.trans hshare⟩, fun h => absurd h hw, uframe, ?_, utb.trans htb,
      upending.trans hpending⟩
    rw [uwalker]
    exact State.damaged_takes _

end Sys2Proof.Machine
end

section
/-! SUPPORT. A request taken as a new one: the responder judges it, acts on it and keeps its reply (R145, R146, R152, R154). -/

namespace Sys2Proof.Machine

open Sys2Proof

/-- What time and one more taken request leave before a new request acts (log 41). -/
def State.counted (s : State) (t : Nat) : State := (s.arrive t).onRespCounts fun k => { k with taken := bump k.taken }

@[simp] theorem State.counted_svc (s : State) (t : Nat) : (s.counted t).svc = s.svc := rfl

/-- The reply of a request formed and kept in the repeat memory (R149, R152). -/
def State.withReply (s : State) (r : ReqArea) (rep : Reply) : State :=
  s.onResp fun p => { p with formed := some rep, memory := some (memoryKey r, rep) }

/-- A reply without data, formed behind a request that changed the services alone, is the answer of the request beside that change. -/
theorem State.withReply_plain (s : State) (t : Nat) (r : ReqArea) (st : ReplyStatus) (v : Services) :
    State.withReply { s.counted t with svc := v } r ((s.counted t).plain r st) = { s.answered t r st [] with svc := v } := by
  have haddr : (s.arrive t).ring.address = s.ring.address := by simp
  simp only [State.withReply, State.counted, State.onRespCounts, State.onResp, State.plain, State.replyTo, State.answered,
    State.replyWith, haddr, State.arrive_resp, List.length_nil]

/-- A request taken as a new one counts, acts, and its reply is formed and kept (R145, R152). -/
theorem State.requestAt_of_takesNew {s : State} {r : ReqArea} (t : Nat) (h : s.takesNew r) :
    s.requestAt t r = .next (((s.counted t).answer r).2.withReply r ((s.counted t).answer r).1) := by
  obtain ⟨haddr, htarget, hidle, hnew, -⟩ := h
  have haddressed : (s.arrive t).addressed r = true := by simpa [State.addressed, htarget] using haddr
  have htake : (s.arrive t).request r = (s.arrive t).take r := by
    rw [State.request, if_pos haddressed, State.arrive_resp, hidle]
  have hfresh : (s.arrive t).resp.repeated r = none := hnew
  rw [State.requestAt, htake, State.take, hfresh]
  rfl

/-- A COMMAND of a count the responder accepts is judged by its word (R146, R153). -/
theorem State.answer_command (s : State) {r : ReqArea} (hk : r.kind = kindCommand) (hc : r.count.toNat ≤ 8) :
    s.answer r = s.answerCommand r := by
  have hgood : ¬ (r.kind.toNat > 4 ∨ r.count.toNat > 8) := by
    rw [hk]; simp [kindCommand, hc]
  rw [State.answer, if_neg hgood, if_pos hk]

/-- A row of a command brings its own request area as it is. -/
theorem asCommand_of_isCommand {code : Nat} {r : ReqArea} (h : isCommand code r = true) : asCommand code r = r := by
  obtain ⟨hk, hw⟩ := of_decide_eq_true h
  simp [asCommand, ← hk, ← hw]

/-- A raise changes the services alone, so the responder takes the same requests as new ones. -/
theorem State.takesNew_raise {s : State} {r : ReqArea} (h : s.takesNew r) (k : EventClass) (d : Detail) : (s.raise k d).takesNew r := h

end Sys2Proof.Machine
end

section
/-! PROOF. What CLEAR_EVENTS removes, and what a raise before it and after it leaves (R156, R162). -/

namespace Sys2Proof.Machine

open Sys2Proof

/-- The event unit with an empty pending set (R162). -/
def Events.emptied (e : Events) : Events := { e with pending := Vector.replicate 16 none }

theorem Events.emptied_pending (e : Events) (i : Fin 16) : e.emptied.pending[i] = none := by simp [Events.emptied]

theorem Events.emptied_pendingCount (e : Events) : e.emptied.pendingCount = 0 := by
  simp [Events.pendingCount, Events.emptied]

theorem Events.emptied_highest (e : Events) : e.emptied.highest = 0 := by
  have hnone : e.emptied.pending.toList.findIdx? Option.isSome = none := by simp [Events.emptied]
  rw [Events.highest, hnone]

/-- CLEAR_EVENTS, taken as a new request, is answered OK and empties the pending set, and does nothing else (R162). -/
theorem exec_clearEvents {s : State} {r : ReqArea} (t : Nat) (hw : WellFormed (.clearEvents t r) = true) (h : s.takesNew r) :
    exec (.clearEvents t r) s =
      .next { s.answered t r .ok [] with svc := { s.svc with events := s.svc.events.emptied } } := by
  obtain ⟨hkind, hword⟩ := of_decide_eq_true hw
  obtain ⟨-, -, -, -, hcount⟩ := id h
  have hanswer : (s.counted t).answer r = ((s.counted t).plain r .ok, (s.counted t).clearEvents) := by
    rw [State.answer_command _ hkind hcount, State.answerCommand, hword]
    rfl
  calc exec (.clearEvents t r) s
    _ = s.requestAt t r := congrArg (s.requestAt t) (asCommand_of_isCommand hw)
    _ = .next ((s.counted t).clearEvents.withReply r ((s.counted t).plain r .ok)) := by
      rw [State.requestAt_of_takesNew t h, hanswer]
    _ = _ := congrArg _ (s.withReply_plain t r .ok _)

section Raises

variable {v : Services} {k : EventClass}

/-- A raise of an enabled class with a good enable word changes its own place of the event unit alone (R156). -/
theorem Services.raise_events (d : Detail) (hflaw : v.flawAt (enableLoc k) = none) (hon : v.events.alert[k.place].enable = true) :
    (v.raise k d).events =
      { v.events with pending := v.events.pending.set k.place (pendPlace d v.events.pending[k.place]) } := by
  rw [Services.raise_good v k d hflaw, Services.entered, Services.enter, hon]
  rfl

/-- A raise taken first is removed by the clear behind it (R162). -/
theorem Services.raise_emptied (d : Detail) (hflaw : v.flawAt (enableLoc k) = none)
    (hon : v.events.alert[k.place].enable = true) : (v.raise k d).events.emptied = v.events.emptied := by
  rw [Services.raise_events d hflaw hon]
  rfl

/-- A raise taken behind the clear makes its class pending with a count of 1 (R156, R162). -/
theorem Services.emptied_raise (d : Detail) (hflaw : v.flawAt (enableLoc k) = none)
    (hon : v.events.alert[k.place].enable = true) :
    (Services.raise { v with events := v.events.emptied } k d).events.pending =
      v.events.emptied.pending.set k.place (some { detail := d, count := 1 }) := by
  rw [Services.raise_events (v := { v with events := v.events.emptied }) d hflaw hon]
  dsimp only
  rw [Events.emptied_pending]
  rfl

end Raises

/-- Settles O36: CLEAR_EVENTS does what its equation says, at any state that takes it as new, a state behind a raise among them; the rest
is what an empty set holds and what a raise does to its place. -/
theorem clearEventsEmptiesThePendingSet : Obligations.ClearEventsEmptiesThePendingSet := by
  intro t r s hw h
  let e := s.svc.events
  refine ⟨exec_clearEvents t hw h, e.emptied_pending, e.emptied_pendingCount, e.emptied_highest, rfl, rfl, rfl, rfl,
    fun k d hflaw hon => ⟨?raised_before, ?raised_after⟩⟩
  case raised_before =>
    exact ⟨_, exec_clearEvents t hw (State.takesNew_raise h k d), Services.raise_emptied d hflaw hon⟩
  case raised_after =>
    exact ⟨_, exec_clearEvents t hw h, Services.emptied_raise d hflaw hon⟩

end Sys2Proof.Machine
end
